-- ==== Sys2Proof/Word.lean ====
section
/-!
DEFINITION. Word.lean: the words of the machine (R8) and their plainest taking apart and putting together.
-/

namespace Sys2Proof

/-- Eight bits: a byte of memory, a register, a data byte (R8). -/
abbrev Byte := BitVec 8

/-- Sixteen bits: a register pair, PC, SP, an immediate word (R8). -/
abbrev Word := BitVec 16

/-- A 16-bit address of the one address space (R80). -/
abbrev Addr := BitVec 16

/-- The high byte of a word. -/
def Word.hi (w : BitVec 16) : Byte := w.extractLsb' 8 8

/-- The low byte of a word. -/
def Word.lo (w : BitVec 16) : Byte := w.extractLsb' 0 8

/-- The word `hi : lo` (R131). -/
def Word.ofBytes (lo hi : Byte) : BitVec 16 := hi ++ lo

end Sys2Proof
end

