-- ==== Sys2Proof/Syntax.lean ====
section
/-!
DEFINITION. Syntax.lean: the instructions (30_encoding.md R140 to R149), one constructor per row of the opcode table;
the four mode rows of a `mem` form are one constructor with a `MemOperand`, and `MOV A,mem` and `MOV mem,A` have
a second constructor for their one-byte form (R210, R212).
-/

namespace Sys2Proof

/-- The operand `r`: R0 to R15 of the active bank (R123). -/
abbrev RegNo := BitVec 4

/-- The operand `r1`: R0 to R7 of the active bank (R124). -/
abbrev Reg8 := BitVec 3

/-- A register pair RP0 to RP7 by its own number (R126); the permuted code of `rp1` (R127) is undone by the decoder. -/
abbrev PairNo := BitVec 3

/-- The operand `rp2` (R128). -/
inductive PointerPair where
  | vp | up | de | hl
  deriving DecidableEq, Repr

/-- The operand `r2` of DBNZ (R125). -/
inductive CountReg where
  | c | b
  deriving DecidableEq, Repr

/-- The memory operands of the one-byte MOV forms (R210, R212). -/
inductive Ptr where
  | deInc | hlInc | deDec | hlDec | de | hl
  deriving DecidableEq, Repr

/-- The operand `mem`: register indirect (R101), base index (R102), base (R103) and index (R104). -/
inductive MemOperand where
  | deInc | hlInc | deDec | hlDec | de | hl | vp | up
  | deA | hlA | deB | hlB | vpDe | vpHl
  | deByte (byte : Byte) | spByte (byte : Byte) | hlByte (byte : Byte) | upByte (byte : Byte) | vpByte (byte : Byte)
  | wordDe (w : Word) | wordA (w : Word) | wordHl (w : Word) | wordB (w : Word)
  deriving DecidableEq, Repr

/-- The instructions of the opcode table. `off` is a saddr or sfr offset byte (R132), `dst` and `src` the two offsets of
a two-saddr form, `w` a word or an address (R131, R133), `jdisp` a displacement byte (R136). -/
inductive Instr where
  -- Data transfer (40_data_transfer.md)
  /-- `MOV r1,#byte`, R201. -/
  | movR1Byte (r1 : Reg8) (byte : Byte)
  /-- `MOV saddr,#byte`, R202. -/
  | movSaddrByte (off : Byte) (byte : Byte)
  /-- `MOV sfr,#byte`, R203. -/
  | movSfrByte (off : Byte) (byte : Byte)
  /-- `MOV r,r1`, R204. -/
  | movRR1 (r : RegNo) (r1 : Reg8)
  /-- `MOV A,r1`, R205. -/
  | movAR1 (r1 : Reg8)
  /-- `MOV A,saddr`, R206. -/
  | movASaddr (off : Byte)
  /-- `MOV saddr,A`, R207. -/
  | movSaddrA (off : Byte)
  /-- `MOV A,sfr`, R208. -/
  | movASfr (off : Byte)
  /-- `MOV sfr,A`, R209. -/
  | movSfrA (off : Byte)
  /-- `MOV A,mem`, R210, the one-byte form. -/
  | movAMem1 (m : Ptr)
  /-- `MOV A,mem`, R211. -/
  | movAMem (m : MemOperand)
  /-- `MOV mem,A`, R212, the one-byte form. -/
  | movMemA1 (m : Ptr)
  /-- `MOV mem,A`, R213. -/
  | movMemA (m : MemOperand)
  /-- `MOV PSWL,#byte`, R214. -/
  | movPswlByte (byte : Byte)
  /-- `MOV PSWH,#byte`, R215. -/
  | movPswhByte (byte : Byte)
  /-- `MOV PSWL,A`, R216. -/
  | movPswlA
  /-- `MOV PSWH,A`, R217. -/
  | movPswhA
  /-- `MOV A,PSWL`, R218. -/
  | movAPswl
  /-- `MOV A,PSWH`, R219. -/
  | movAPswh
  /-- `MOV saddr,saddr`, R220. -/
  | movSaddrSaddr (dst : Byte) (src : Byte)
  /-- `MOV A,[saddrp]`, R221. -/
  | movAIndSaddrp (off : Byte)
  /-- `MOV [saddrp],A`, R222. -/
  | movIndSaddrpA (off : Byte)
  /-- `MOV A,!addr16`, R223. -/
  | movAAddr16 (w : Addr)
  /-- `MOV !addr16,A`, R224. -/
  | movAddr16A (w : Addr)
  /-- `XCH A,r1`, R225. -/
  | xchAR1 (r1 : Reg8)
  /-- `XCH r,r1`, R226. -/
  | xchRR1 (r : RegNo) (r1 : Reg8)
  /-- `XCH A,mem`, R227. -/
  | xchAMem (m : MemOperand)
  /-- `XCH A,saddr`, R228. -/
  | xchASaddr (off : Byte)
  /-- `XCH A,sfr`, R229. -/
  | xchASfr (off : Byte)
  /-- `XCH A,[saddrp]`, R230. -/
  | xchAIndSaddrp (off : Byte)
  /-- `XCH saddr,saddr`, R231. -/
  | xchSaddrSaddr (dst : Byte) (src : Byte)
  /-- `MOVW rp1,#word`, R232. -/
  | movwRp1Word (rp1 : PairNo) (w : Word)
  /-- `MOVW saddrp,#word`, R233. -/
  | movwSaddrpWord (off : Byte) (w : Word)
  /-- `MOVW sfrp,#word`, R234. -/
  | movwSfrpWord (off : Byte) (w : Word)
  /-- `MOVW rp,rp1`, R235. -/
  | movwRpRp1 (rp : PairNo) (rp1 : PairNo)
  /-- `MOVW AX,saddrp`, R236. -/
  | movwAxSaddrp (off : Byte)
  /-- `MOVW saddrp,AX`, R237. -/
  | movwSaddrpAx (off : Byte)
  /-- `MOVW saddrp,saddrp`, R238. -/
  | movwSaddrpSaddrp (dst : Byte) (src : Byte)
  /-- `MOVW AX,sfrp`, R239. -/
  | movwAxSfrp (off : Byte)
  /-- `MOVW sfrp,AX`, R240. -/
  | movwSfrpAx (off : Byte)
  /-- `MOVW rp1,!addr16`, R241. -/
  | movwRp1Addr16 (rp1 : PairNo) (w : Addr)
  /-- `MOVW !addr16,rp1`, R242. -/
  | movwAddr16Rp1 (w : Addr) (rp1 : PairNo)
  /-- `XCHW AX,saddrp`, R243. -/
  | xchwAxSaddrp (off : Byte)
  /-- `XCHW AX,sfrp`, R244. -/
  | xchwAxSfrp (off : Byte)
  /-- `XCHW saddrp,saddrp`, R245. -/
  | xchwSaddrpSaddrp (dst : Byte) (src : Byte)
  /-- `XCHW rp,rp1`, R246. -/
  | xchwRpRp1 (rp : PairNo) (rp1 : PairNo)
  -- 8-bit operations (41_alu8.md)
  /-- `ADD A,#byte`, R800. -/
  | addAByte (byte : Byte)
  /-- `ADD saddr,#byte`, R801. -/
  | addSaddrByte (off : Byte) (byte : Byte)
  /-- `ADD sfr,#byte`, R802. -/
  | addSfrByte (off : Byte) (byte : Byte)
  /-- `ADD r,r1`, R803. -/
  | addRR1 (r : RegNo) (r1 : Reg8)
  /-- `ADD A,saddr`, R804. -/
  | addASaddr (off : Byte)
  /-- `ADD A,sfr`, R805. -/
  | addASfr (off : Byte)
  /-- `ADD saddr,saddr`, R806. -/
  | addSaddrSaddr (dst : Byte) (src : Byte)
  /-- `ADD A,mem`, R807. -/
  | addAMem (m : MemOperand)
  /-- `ADD mem,A`, R808. -/
  | addMemA (m : MemOperand)
  /-- `ADDC A,#byte`, R809. -/
  | addcAByte (byte : Byte)
  /-- `ADDC saddr,#byte`, R810. -/
  | addcSaddrByte (off : Byte) (byte : Byte)
  /-- `ADDC sfr,#byte`, R811. -/
  | addcSfrByte (off : Byte) (byte : Byte)
  /-- `ADDC r,r1`, R812. -/
  | addcRR1 (r : RegNo) (r1 : Reg8)
  /-- `ADDC A,saddr`, R813. -/
  | addcASaddr (off : Byte)
  /-- `ADDC A,sfr`, R814. -/
  | addcASfr (off : Byte)
  /-- `ADDC saddr,saddr`, R815. -/
  | addcSaddrSaddr (dst : Byte) (src : Byte)
  /-- `ADDC A,mem`, R816. -/
  | addcAMem (m : MemOperand)
  /-- `ADDC mem,A`, R817. -/
  | addcMemA (m : MemOperand)
  /-- `SUB A,#byte`, R818. -/
  | subAByte (byte : Byte)
  /-- `SUB saddr,#byte`, R819. -/
  | subSaddrByte (off : Byte) (byte : Byte)
  /-- `SUB sfr,#byte`, R820. -/
  | subSfrByte (off : Byte) (byte : Byte)
  /-- `SUB r,r1`, R821. -/
  | subRR1 (r : RegNo) (r1 : Reg8)
  /-- `SUB A,saddr`, R822. -/
  | subASaddr (off : Byte)
  /-- `SUB A,sfr`, R823. -/
  | subASfr (off : Byte)
  /-- `SUB saddr,saddr`, R824. -/
  | subSaddrSaddr (dst : Byte) (src : Byte)
  /-- `SUB A,mem`, R825. -/
  | subAMem (m : MemOperand)
  /-- `SUB mem,A`, R826. -/
  | subMemA (m : MemOperand)
  /-- `SUBC A,#byte`, R827. -/
  | subcAByte (byte : Byte)
  /-- `SUBC saddr,#byte`, R828. -/
  | subcSaddrByte (off : Byte) (byte : Byte)
  /-- `SUBC sfr,#byte`, R829. -/
  | subcSfrByte (off : Byte) (byte : Byte)
  /-- `SUBC r,r1`, R830. -/
  | subcRR1 (r : RegNo) (r1 : Reg8)
  /-- `SUBC A,saddr`, R831. -/
  | subcASaddr (off : Byte)
  /-- `SUBC A,sfr`, R832. -/
  | subcASfr (off : Byte)
  /-- `SUBC saddr,saddr`, R833. -/
  | subcSaddrSaddr (dst : Byte) (src : Byte)
  /-- `SUBC A,mem`, R834. -/
  | subcAMem (m : MemOperand)
  /-- `SUBC mem,A`, R835. -/
  | subcMemA (m : MemOperand)
  /-- `AND A,#byte`, R836. -/
  | andAByte (byte : Byte)
  /-- `AND saddr,#byte`, R837. -/
  | andSaddrByte (off : Byte) (byte : Byte)
  /-- `AND sfr,#byte`, R838. -/
  | andSfrByte (off : Byte) (byte : Byte)
  /-- `AND r,r1`, R839. -/
  | andRR1 (r : RegNo) (r1 : Reg8)
  /-- `AND A,saddr`, R840. -/
  | andASaddr (off : Byte)
  /-- `AND A,sfr`, R841. -/
  | andASfr (off : Byte)
  /-- `AND saddr,saddr`, R842. -/
  | andSaddrSaddr (dst : Byte) (src : Byte)
  /-- `AND A,mem`, R843. -/
  | andAMem (m : MemOperand)
  /-- `AND mem,A`, R844. -/
  | andMemA (m : MemOperand)
  /-- `XOR A,#byte`, R845. -/
  | xorAByte (byte : Byte)
  /-- `XOR saddr,#byte`, R846. -/
  | xorSaddrByte (off : Byte) (byte : Byte)
  /-- `XOR sfr,#byte`, R847. -/
  | xorSfrByte (off : Byte) (byte : Byte)
  /-- `XOR r,r1`, R848. -/
  | xorRR1 (r : RegNo) (r1 : Reg8)
  /-- `XOR A,saddr`, R849. -/
  | xorASaddr (off : Byte)
  /-- `XOR A,sfr`, R850. -/
  | xorASfr (off : Byte)
  /-- `XOR saddr,saddr`, R851. -/
  | xorSaddrSaddr (dst : Byte) (src : Byte)
  /-- `XOR A,mem`, R852. -/
  | xorAMem (m : MemOperand)
  /-- `XOR mem,A`, R853. -/
  | xorMemA (m : MemOperand)
  /-- `OR A,#byte`, R854. -/
  | orAByte (byte : Byte)
  /-- `OR saddr,#byte`, R855. -/
  | orSaddrByte (off : Byte) (byte : Byte)
  /-- `OR sfr,#byte`, R856. -/
  | orSfrByte (off : Byte) (byte : Byte)
  /-- `OR r,r1`, R857. -/
  | orRR1 (r : RegNo) (r1 : Reg8)
  /-- `OR A,saddr`, R858. -/
  | orASaddr (off : Byte)
  /-- `OR A,sfr`, R859. -/
  | orASfr (off : Byte)
  /-- `OR saddr,saddr`, R860. -/
  | orSaddrSaddr (dst : Byte) (src : Byte)
  /-- `OR A,mem`, R861. -/
  | orAMem (m : MemOperand)
  /-- `OR mem,A`, R862. -/
  | orMemA (m : MemOperand)
  /-- `CMP A,#byte`, R863. -/
  | cmpAByte (byte : Byte)
  /-- `CMP saddr,#byte`, R864. -/
  | cmpSaddrByte (off : Byte) (byte : Byte)
  /-- `CMP sfr,#byte`, R865. -/
  | cmpSfrByte (off : Byte) (byte : Byte)
  /-- `CMP r,r1`, R866. -/
  | cmpRR1 (r : RegNo) (r1 : Reg8)
  /-- `CMP A,saddr`, R867. -/
  | cmpASaddr (off : Byte)
  /-- `CMP A,sfr`, R868. -/
  | cmpASfr (off : Byte)
  /-- `CMP saddr,saddr`, R869. -/
  | cmpSaddrSaddr (dst : Byte) (src : Byte)
  /-- `CMP A,mem`, R870. -/
  | cmpAMem (m : MemOperand)
  /-- `CMP mem,A`, R871. -/
  | cmpMemA (m : MemOperand)
  -- 16-bit operations (42_alu16.md)
  /-- `ADDW AX,#word`, R285. -/
  | addwAxWord (w : Word)
  /-- `ADDW saddrp,#word`, R286. -/
  | addwSaddrpWord (off : Byte) (w : Word)
  /-- `ADDW sfrp,#word`, R287. -/
  | addwSfrpWord (off : Byte) (w : Word)
  /-- `ADDW rp,rp1`, R288. -/
  | addwRpRp1 (rp : PairNo) (rp1 : PairNo)
  /-- `ADDW AX,saddrp`, R289. -/
  | addwAxSaddrp (off : Byte)
  /-- `ADDW AX,sfrp`, R290. -/
  | addwAxSfrp (off : Byte)
  /-- `ADDW saddrp,saddrp`, R291. -/
  | addwSaddrpSaddrp (dst : Byte) (src : Byte)
  /-- `SUBW AX,#word`, R292. -/
  | subwAxWord (w : Word)
  /-- `SUBW saddrp,#word`, R293. -/
  | subwSaddrpWord (off : Byte) (w : Word)
  /-- `SUBW sfrp,#word`, R294. -/
  | subwSfrpWord (off : Byte) (w : Word)
  /-- `SUBW rp,rp1`, R295. -/
  | subwRpRp1 (rp : PairNo) (rp1 : PairNo)
  /-- `SUBW AX,saddrp`, R296. -/
  | subwAxSaddrp (off : Byte)
  /-- `SUBW AX,sfrp`, R297. -/
  | subwAxSfrp (off : Byte)
  /-- `SUBW saddrp,saddrp`, R298. -/
  | subwSaddrpSaddrp (dst : Byte) (src : Byte)
  /-- `CMPW AX,#word`, R299. -/
  | cmpwAxWord (w : Word)
  /-- `CMPW saddrp,#word`, R300. -/
  | cmpwSaddrpWord (off : Byte) (w : Word)
  /-- `CMPW sfrp,#word`, R301. -/
  | cmpwSfrpWord (off : Byte) (w : Word)
  /-- `CMPW rp,rp1`, R302. -/
  | cmpwRpRp1 (rp : PairNo) (rp1 : PairNo)
  /-- `CMPW AX,saddrp`, R303. -/
  | cmpwAxSaddrp (off : Byte)
  /-- `CMPW AX,sfrp`, R304. -/
  | cmpwAxSfrp (off : Byte)
  /-- `CMPW saddrp,saddrp`, R305. -/
  | cmpwSaddrpSaddrp (dst : Byte) (src : Byte)
  -- Multiplication, division, increment, decrement (43_muldiv_incdec.md)
  /-- `MULU r1`, R321. -/
  | muluR1 (r1 : Reg8)
  /-- `DIVUW r1`, R322. -/
  | divuwR1 (r1 : Reg8)
  /-- `MULUW rp1`, R323. -/
  | muluwRp1 (rp1 : PairNo)
  /-- `DIVUX rp1`, R324. -/
  | divuxRp1 (rp1 : PairNo)
  /-- `INC r1`, R325. -/
  | incR1 (r1 : Reg8)
  /-- `INC saddr`, R326. -/
  | incSaddr (off : Byte)
  /-- `DEC r1`, R327. -/
  | decR1 (r1 : Reg8)
  /-- `DEC saddr`, R328. -/
  | decSaddr (off : Byte)
  /-- `INCW rp2`, R329. -/
  | incwRp2 (rp2 : PointerPair)
  /-- `INCW saddrp`, R330. -/
  | incwSaddrp (off : Byte)
  /-- `DECW rp2`, R331. -/
  | decwRp2 (rp2 : PointerPair)
  /-- `DECW saddrp`, R332. -/
  | decwSaddrp (off : Byte)
  -- Shift, rotate, BCD (44_shift_rotate_bcd.md)
  /-- `ROR r1,n`, R341. -/
  | rorR1N (r1 : Reg8) (n : BitVec 3)
  /-- `ROL r1,n`, R342. -/
  | rolR1N (r1 : Reg8) (n : BitVec 3)
  /-- `RORC r1,n`, R343. -/
  | rorcR1N (r1 : Reg8) (n : BitVec 3)
  /-- `ROLC r1,n`, R344. -/
  | rolcR1N (r1 : Reg8) (n : BitVec 3)
  /-- `SHR r1,n`, R345. -/
  | shrR1N (r1 : Reg8) (n : BitVec 3)
  /-- `SHL r1,n`, R346. -/
  | shlR1N (r1 : Reg8) (n : BitVec 3)
  /-- `SHRW rp1,n`, R347. -/
  | shrwRp1N (rp1 : PairNo) (n : BitVec 3)
  /-- `SHLW rp1,n`, R348. -/
  | shlwRp1N (rp1 : PairNo) (n : BitVec 3)
  /-- `ROR4 [rp1]`, R349. -/
  | ror4IndRp1 (rp1 : PairNo)
  /-- `ROL4 [rp1]`, R350. -/
  | rol4IndRp1 (rp1 : PairNo)
  /-- `ADJ4`, R352. -/
  | adj4
  -- Bit manipulation (45_bit_manipulation.md)
  /-- `MOV1 CY,saddr.bit`, R900. -/
  | mov1CySaddrBit (off : Byte) (bit : BitVec 3)
  /-- `MOV1 CY,sfr.bit`, R901. -/
  | mov1CySfrBit (off : Byte) (bit : BitVec 3)
  /-- `MOV1 CY,A.bit`, R902. -/
  | mov1CyABit (bit : BitVec 3)
  /-- `MOV1 CY,X.bit`, R903. -/
  | mov1CyXBit (bit : BitVec 3)
  /-- `MOV1 CY,PSWH.bit`, R904. -/
  | mov1CyPswhBit (bit : BitVec 3)
  /-- `MOV1 CY,PSWL.bit`, R905. -/
  | mov1CyPswlBit (bit : BitVec 3)
  /-- `MOV1 saddr.bit,CY`, R906. -/
  | mov1SaddrBitCy (off : Byte) (bit : BitVec 3)
  /-- `MOV1 sfr.bit,CY`, R907. -/
  | mov1SfrBitCy (off : Byte) (bit : BitVec 3)
  /-- `MOV1 A.bit,CY`, R908. -/
  | mov1ABitCy (bit : BitVec 3)
  /-- `MOV1 X.bit,CY`, R909. -/
  | mov1XBitCy (bit : BitVec 3)
  /-- `MOV1 PSWH.bit,CY`, R910. -/
  | mov1PswhBitCy (bit : BitVec 3)
  /-- `MOV1 PSWL.bit,CY`, R911. -/
  | mov1PswlBitCy (bit : BitVec 3)
  /-- `AND1 CY,saddr.bit`, R912. -/
  | and1CySaddrBit (off : Byte) (bit : BitVec 3)
  /-- `AND1 CY,/saddr.bit`, R913. -/
  | and1CyNotSaddrBit (off : Byte) (bit : BitVec 3)
  /-- `AND1 CY,sfr.bit`, R914. -/
  | and1CySfrBit (off : Byte) (bit : BitVec 3)
  /-- `AND1 CY,/sfr.bit`, R915. -/
  | and1CyNotSfrBit (off : Byte) (bit : BitVec 3)
  /-- `AND1 CY,A.bit`, R916. -/
  | and1CyABit (bit : BitVec 3)
  /-- `AND1 CY,/A.bit`, R917. -/
  | and1CyNotABit (bit : BitVec 3)
  /-- `AND1 CY,X.bit`, R918. -/
  | and1CyXBit (bit : BitVec 3)
  /-- `AND1 CY,/X.bit`, R919. -/
  | and1CyNotXBit (bit : BitVec 3)
  /-- `AND1 CY,PSWH.bit`, R920. -/
  | and1CyPswhBit (bit : BitVec 3)
  /-- `AND1 CY,/PSWH.bit`, R921. -/
  | and1CyNotPswhBit (bit : BitVec 3)
  /-- `AND1 CY,PSWL.bit`, R922. -/
  | and1CyPswlBit (bit : BitVec 3)
  /-- `AND1 CY,/PSWL.bit`, R923. -/
  | and1CyNotPswlBit (bit : BitVec 3)
  /-- `OR1 CY,saddr.bit`, R924. -/
  | or1CySaddrBit (off : Byte) (bit : BitVec 3)
  /-- `OR1 CY,/saddr.bit`, R925. -/
  | or1CyNotSaddrBit (off : Byte) (bit : BitVec 3)
  /-- `OR1 CY,sfr.bit`, R926. -/
  | or1CySfrBit (off : Byte) (bit : BitVec 3)
  /-- `OR1 CY,/sfr.bit`, R927. -/
  | or1CyNotSfrBit (off : Byte) (bit : BitVec 3)
  /-- `OR1 CY,A.bit`, R928. -/
  | or1CyABit (bit : BitVec 3)
  /-- `OR1 CY,/A.bit`, R929. -/
  | or1CyNotABit (bit : BitVec 3)
  /-- `OR1 CY,X.bit`, R930. -/
  | or1CyXBit (bit : BitVec 3)
  /-- `OR1 CY,/X.bit`, R931. -/
  | or1CyNotXBit (bit : BitVec 3)
  /-- `OR1 CY,PSWH.bit`, R932. -/
  | or1CyPswhBit (bit : BitVec 3)
  /-- `OR1 CY,/PSWH.bit`, R933. -/
  | or1CyNotPswhBit (bit : BitVec 3)
  /-- `OR1 CY,PSWL.bit`, R934. -/
  | or1CyPswlBit (bit : BitVec 3)
  /-- `OR1 CY,/PSWL.bit`, R935. -/
  | or1CyNotPswlBit (bit : BitVec 3)
  /-- `XOR1 CY,saddr.bit`, R936. -/
  | xor1CySaddrBit (off : Byte) (bit : BitVec 3)
  /-- `XOR1 CY,sfr.bit`, R937. -/
  | xor1CySfrBit (off : Byte) (bit : BitVec 3)
  /-- `XOR1 CY,A.bit`, R938. -/
  | xor1CyABit (bit : BitVec 3)
  /-- `XOR1 CY,X.bit`, R939. -/
  | xor1CyXBit (bit : BitVec 3)
  /-- `XOR1 CY,PSWH.bit`, R940. -/
  | xor1CyPswhBit (bit : BitVec 3)
  /-- `XOR1 CY,PSWL.bit`, R941. -/
  | xor1CyPswlBit (bit : BitVec 3)
  /-- `SET1 saddr.bit`, R942. -/
  | set1SaddrBit (off : Byte) (bit : BitVec 3)
  /-- `SET1 sfr.bit`, R943. -/
  | set1SfrBit (off : Byte) (bit : BitVec 3)
  /-- `SET1 A.bit`, R944. -/
  | set1ABit (bit : BitVec 3)
  /-- `SET1 X.bit`, R945. -/
  | set1XBit (bit : BitVec 3)
  /-- `SET1 PSWH.bit`, R946. -/
  | set1PswhBit (bit : BitVec 3)
  /-- `SET1 PSWL.bit`, R947. -/
  | set1PswlBit (bit : BitVec 3)
  /-- `SET1 CY`, R948. -/
  | set1Cy
  /-- `CLR1 saddr.bit`, R949. -/
  | clr1SaddrBit (off : Byte) (bit : BitVec 3)
  /-- `CLR1 sfr.bit`, R950. -/
  | clr1SfrBit (off : Byte) (bit : BitVec 3)
  /-- `CLR1 A.bit`, R951. -/
  | clr1ABit (bit : BitVec 3)
  /-- `CLR1 X.bit`, R952. -/
  | clr1XBit (bit : BitVec 3)
  /-- `CLR1 PSWH.bit`, R953. -/
  | clr1PswhBit (bit : BitVec 3)
  /-- `CLR1 PSWL.bit`, R954. -/
  | clr1PswlBit (bit : BitVec 3)
  /-- `CLR1 CY`, R955. -/
  | clr1Cy
  /-- `NOT1 saddr.bit`, R956. -/
  | not1SaddrBit (off : Byte) (bit : BitVec 3)
  /-- `NOT1 sfr.bit`, R957. -/
  | not1SfrBit (off : Byte) (bit : BitVec 3)
  /-- `NOT1 A.bit`, R958. -/
  | not1ABit (bit : BitVec 3)
  /-- `NOT1 X.bit`, R959. -/
  | not1XBit (bit : BitVec 3)
  /-- `NOT1 PSWH.bit`, R960. -/
  | not1PswhBit (bit : BitVec 3)
  /-- `NOT1 PSWL.bit`, R961. -/
  | not1PswlBit (bit : BitVec 3)
  /-- `NOT1 CY`, R962. -/
  | not1Cy
  -- Call, return, stack (46_call_return_stack.md)
  /-- `CALL !addr16`, R401. -/
  | callAddr16 (w : Addr)
  /-- `CALLF !addr11`, R402. -/
  | callfAddr11 (f11 : BitVec 11)
  /-- `CALLT [addr5]`, R403. -/
  | calltAddr5 (t5 : BitVec 5)
  /-- `CALL rp1`, R404. -/
  | callRp1 (rp1 : PairNo)
  /-- `CALL [rp1]`, R405. -/
  | callIndRp1 (rp1 : PairNo)
  /-- `BRK`, R406. -/
  | brk
  /-- `RET`, R407. -/
  | ret
  /-- `RETI`, R408. -/
  | reti
  /-- `PUSH post`, R409. -/
  | pushPost (post : Byte)
  /-- `PUSH PSW`, R410. -/
  | pushPsw
  /-- `PUSHU post`, R411. -/
  | pushuPost (post : Byte)
  /-- `POP post`, R412. -/
  | popPost (post : Byte)
  /-- `POP PSW`, R413. -/
  | popPsw
  /-- `POPU post`, R414. -/
  | popuPost (post : Byte)
  /-- `MOVW SP,#word`, R416. -/
  | movwSpWord (w : Word)
  /-- `MOVW SP,AX`, R417. -/
  | movwSpAx
  /-- `MOVW AX,SP`, R418. -/
  | movwAxSp
  /-- `INCW SP`, R419. -/
  | incwSp
  /-- `DECW SP`, R420. -/
  | decwSp
  -- Branch (47_branch.md)
  /-- `BR !addr16`, R446. -/
  | brAddr16 (w : Addr)
  /-- `BR rp1`, R447. -/
  | brRp1 (rp1 : PairNo)
  /-- `BR [rp1]`, R448. -/
  | brIndRp1 (rp1 : PairNo)
  /-- `BR $addr16`, R449. -/
  | brRel (jdisp : Byte)
  /-- `BC $addr16`, R450. -/
  | bcRel (jdisp : Byte)
  /-- `BNC $addr16`, R451. -/
  | bncRel (jdisp : Byte)
  /-- `BZ $addr16`, R452. -/
  | bzRel (jdisp : Byte)
  /-- `BNZ $addr16`, R453. -/
  | bnzRel (jdisp : Byte)
  /-- `BV $addr16`, R454. -/
  | bvRel (jdisp : Byte)
  /-- `BNV $addr16`, R455. -/
  | bnvRel (jdisp : Byte)
  /-- `BN $addr16`, R456. -/
  | bnRel (jdisp : Byte)
  /-- `BP $addr16`, R457. -/
  | bpRel (jdisp : Byte)
  /-- `BGT $addr16`, R458. -/
  | bgtRel (jdisp : Byte)
  /-- `BGE $addr16`, R459. -/
  | bgeRel (jdisp : Byte)
  /-- `BLT $addr16`, R460. -/
  | bltRel (jdisp : Byte)
  /-- `BLE $addr16`, R461. -/
  | bleRel (jdisp : Byte)
  /-- `BH $addr16`, R462. -/
  | bhRel (jdisp : Byte)
  /-- `BNH $addr16`, R463. -/
  | bnhRel (jdisp : Byte)
  /-- `BT saddr.bit,$addr16`, R464. -/
  | btSaddrBitRel (off : Byte) (bit : BitVec 3) (jdisp : Byte)
  /-- `BT sfr.bit,$addr16`, R465. -/
  | btSfrBitRel (off : Byte) (bit : BitVec 3) (jdisp : Byte)
  /-- `BT A.bit,$addr16`, R466. -/
  | btABitRel (bit : BitVec 3) (jdisp : Byte)
  /-- `BT X.bit,$addr16`, R467. -/
  | btXBitRel (bit : BitVec 3) (jdisp : Byte)
  /-- `BT PSWH.bit,$addr16`, R468. -/
  | btPswhBitRel (bit : BitVec 3) (jdisp : Byte)
  /-- `BT PSWL.bit,$addr16`, R469. -/
  | btPswlBitRel (bit : BitVec 3) (jdisp : Byte)
  /-- `BF saddr.bit,$addr16`, R470. -/
  | bfSaddrBitRel (off : Byte) (bit : BitVec 3) (jdisp : Byte)
  /-- `BF sfr.bit,$addr16`, R471. -/
  | bfSfrBitRel (off : Byte) (bit : BitVec 3) (jdisp : Byte)
  /-- `BF A.bit,$addr16`, R472. -/
  | bfABitRel (bit : BitVec 3) (jdisp : Byte)
  /-- `BF X.bit,$addr16`, R473. -/
  | bfXBitRel (bit : BitVec 3) (jdisp : Byte)
  /-- `BF PSWH.bit,$addr16`, R474. -/
  | bfPswhBitRel (bit : BitVec 3) (jdisp : Byte)
  /-- `BF PSWL.bit,$addr16`, R475. -/
  | bfPswlBitRel (bit : BitVec 3) (jdisp : Byte)
  /-- `BTCLR saddr.bit,$addr16`, R476. -/
  | btclrSaddrBitRel (off : Byte) (bit : BitVec 3) (jdisp : Byte)
  /-- `BTCLR sfr.bit,$addr16`, R477. -/
  | btclrSfrBitRel (off : Byte) (bit : BitVec 3) (jdisp : Byte)
  /-- `BTCLR A.bit,$addr16`, R478. -/
  | btclrABitRel (bit : BitVec 3) (jdisp : Byte)
  /-- `BTCLR X.bit,$addr16`, R479. -/
  | btclrXBitRel (bit : BitVec 3) (jdisp : Byte)
  /-- `BTCLR PSWH.bit,$addr16`, R480. -/
  | btclrPswhBitRel (bit : BitVec 3) (jdisp : Byte)
  /-- `BTCLR PSWL.bit,$addr16`, R481. -/
  | btclrPswlBitRel (bit : BitVec 3) (jdisp : Byte)
  /-- `BFSET saddr.bit,$addr16`, R482. -/
  | bfsetSaddrBitRel (off : Byte) (bit : BitVec 3) (jdisp : Byte)
  /-- `BFSET sfr.bit,$addr16`, R483. -/
  | bfsetSfrBitRel (off : Byte) (bit : BitVec 3) (jdisp : Byte)
  /-- `BFSET A.bit,$addr16`, R484. -/
  | bfsetABitRel (bit : BitVec 3) (jdisp : Byte)
  /-- `BFSET X.bit,$addr16`, R485. -/
  | bfsetXBitRel (bit : BitVec 3) (jdisp : Byte)
  /-- `BFSET PSWH.bit,$addr16`, R486. -/
  | bfsetPswhBitRel (bit : BitVec 3) (jdisp : Byte)
  /-- `BFSET PSWL.bit,$addr16`, R487. -/
  | bfsetPswlBitRel (bit : BitVec 3) (jdisp : Byte)
  /-- `DBNZ r2,$addr16`, R488. -/
  | dbnzR2Rel (r2 : CountReg) (jdisp : Byte)
  /-- `DBNZ saddr,$addr16`, R489. -/
  | dbnzSaddrRel (off : Byte) (jdisp : Byte)
  -- Context switch, string, CPU control (48_context_string_cpu.md)
  /-- `BRKCS RBn`, R490. -/
  | brkcsRbn (n : BitVec 3)
  /-- `RETCS !addr16`, R491. -/
  | retcsAddr16 (w : Addr)
  /-- `MOVM [DE+],A`, R493. -/
  | movmInc
  /-- `MOVM [DE-],A`, R494. -/
  | movmDec
  /-- `MOVBK [DE+],[HL+]`, R495. -/
  | movbkInc
  /-- `MOVBK [DE-],[HL-]`, R496. -/
  | movbkDec
  /-- `XCHM [DE+],A`, R497. -/
  | xchmInc
  /-- `XCHM [DE-],A`, R498. -/
  | xchmDec
  /-- `XCHBK [DE+],[HL+]`, R499. -/
  | xchbkInc
  /-- `XCHBK [DE-],[HL-]`, R500. -/
  | xchbkDec
  /-- `CMPME [DE+],A`, R501. -/
  | cmpmeInc
  /-- `CMPME [DE-],A`, R502. -/
  | cmpmeDec
  /-- `CMPBKE [DE+],[HL+]`, R503. -/
  | cmpbkeInc
  /-- `CMPBKE [DE-],[HL-]`, R504. -/
  | cmpbkeDec
  /-- `CMPMNE [DE+],A`, R505. -/
  | cmpmneInc
  /-- `CMPMNE [DE-],A`, R506. -/
  | cmpmneDec
  /-- `CMPBKNE [DE+],[HL+]`, R507. -/
  | cmpbkneInc
  /-- `CMPBKNE [DE-],[HL-]`, R508. -/
  | cmpbkneDec
  /-- `CMPMC [DE+],A`, R509. -/
  | cmpmcInc
  /-- `CMPMC [DE-],A`, R510. -/
  | cmpmcDec
  /-- `CMPBKC [DE+],[HL+]`, R511. -/
  | cmpbkcInc
  /-- `CMPBKC [DE-],[HL-]`, R512. -/
  | cmpbkcDec
  /-- `CMPMNC [DE+],A`, R513. -/
  | cmpmncInc
  /-- `CMPMNC [DE-],A`, R514. -/
  | cmpmncDec
  /-- `CMPBKNC [DE+],[HL+]`, R515. -/
  | cmpbkncInc
  /-- `CMPBKNC [DE-],[HL-]`, R516. -/
  | cmpbkncDec
  /-- `MOV STBC,#byte`, R517. -/
  | movStbcByte (check : Byte) (byte : Byte)
  /-- `MOV WDM,#byte`, R518. -/
  | movWdmByte (check : Byte) (byte : Byte)
  /-- `SWRS`, R519. -/
  | swrs
  /-- `SEL RBn`, R520. -/
  | selRbn (n : BitVec 3)
  /-- `SEL RBn,ALT`, R521. -/
  | selRbnAlt (n : BitVec 3)
  /-- `NOP`, R522. -/
  | nop
  /-- `EI`, R523. -/
  | ei
  /-- `DI`, R524. -/
  | di
  deriving DecidableEq, Repr

end Sys2Proof
end

