-- ==== Sys2Proof/WellFormed.lean ====
section
/-!
DEFINITION. WellFormed.lean: which operands the manual admits: a `saddrp` or `sfrp` offset is even (R92), and an `sfr` or
`sfrp` offset names SP or PSW in the listed forms only, which are constructors of their own (R34, R153).
-/

namespace Sys2Proof

/-- The offset of a `saddrp` operand is even (R92, R94). -/
def evenOffset (off : Byte) : Bool := !off.getLsbD 0

/-- The offset of an `sfr` operand is none of FCH to FFH, which are SP and PSW (R34). -/
def plainSfr (off : Byte) : Bool := off.toNat < 0xFC

/-- The operands of an instruction are ones the manual admits. -/
def Instr.wellFormed : Instr → Bool
  | .movR1Byte _ _ => true
  | .movSaddrByte _ _ => true
  | .movSfrByte off _ => plainSfr off
  | .movRR1 _ _ => true
  | .movAR1 _ => true
  | .movASaddr _ => true
  | .movSaddrA _ => true
  | .movASfr off => plainSfr off
  | .movSfrA off => plainSfr off
  | .movAMem1 _ => true
  | .movAMem _ => true
  | .movMemA1 _ => true
  | .movMemA _ => true
  | .movPswlByte _ => true
  | .movPswhByte _ => true
  | .movPswlA => true
  | .movPswhA => true
  | .movAPswl => true
  | .movAPswh => true
  | .movSaddrSaddr _ _ => true
  | .movAIndSaddrp off => evenOffset off
  | .movIndSaddrpA off => evenOffset off
  | .movAAddr16 _ => true
  | .movAddr16A _ => true
  | .xchAR1 _ => true
  | .xchRR1 _ _ => true
  | .xchAMem _ => true
  | .xchASaddr _ => true
  | .xchASfr off => plainSfr off
  | .xchAIndSaddrp off => evenOffset off
  | .xchSaddrSaddr _ _ => true
  | .movwRp1Word _ _ => true
  | .movwSaddrpWord off _ => evenOffset off
  | .movwSfrpWord off _ => evenOffset off && plainSfr off
  | .movwRpRp1 _ _ => true
  | .movwAxSaddrp off => evenOffset off
  | .movwSaddrpAx off => evenOffset off
  | .movwSaddrpSaddrp dst src => evenOffset dst && evenOffset src
  | .movwAxSfrp off => evenOffset off && plainSfr off
  | .movwSfrpAx off => evenOffset off && plainSfr off
  | .movwRp1Addr16 _ _ => true
  | .movwAddr16Rp1 _ _ => true
  | .xchwAxSaddrp off => evenOffset off
  | .xchwAxSfrp off => evenOffset off && plainSfr off
  | .xchwSaddrpSaddrp dst src => evenOffset dst && evenOffset src
  | .xchwRpRp1 _ _ => true
  | .addAByte _ => true
  | .addSaddrByte _ _ => true
  | .addSfrByte off _ => plainSfr off
  | .addRR1 _ _ => true
  | .addASaddr _ => true
  | .addASfr off => plainSfr off
  | .addSaddrSaddr _ _ => true
  | .addAMem _ => true
  | .addMemA _ => true
  | .addcAByte _ => true
  | .addcSaddrByte _ _ => true
  | .addcSfrByte off _ => plainSfr off
  | .addcRR1 _ _ => true
  | .addcASaddr _ => true
  | .addcASfr off => plainSfr off
  | .addcSaddrSaddr _ _ => true
  | .addcAMem _ => true
  | .addcMemA _ => true
  | .subAByte _ => true
  | .subSaddrByte _ _ => true
  | .subSfrByte off _ => plainSfr off
  | .subRR1 _ _ => true
  | .subASaddr _ => true
  | .subASfr off => plainSfr off
  | .subSaddrSaddr _ _ => true
  | .subAMem _ => true
  | .subMemA _ => true
  | .subcAByte _ => true
  | .subcSaddrByte _ _ => true
  | .subcSfrByte off _ => plainSfr off
  | .subcRR1 _ _ => true
  | .subcASaddr _ => true
  | .subcASfr off => plainSfr off
  | .subcSaddrSaddr _ _ => true
  | .subcAMem _ => true
  | .subcMemA _ => true
  | .andAByte _ => true
  | .andSaddrByte _ _ => true
  | .andSfrByte off _ => plainSfr off
  | .andRR1 _ _ => true
  | .andASaddr _ => true
  | .andASfr off => plainSfr off
  | .andSaddrSaddr _ _ => true
  | .andAMem _ => true
  | .andMemA _ => true
  | .xorAByte _ => true
  | .xorSaddrByte _ _ => true
  | .xorSfrByte off _ => plainSfr off
  | .xorRR1 _ _ => true
  | .xorASaddr _ => true
  | .xorASfr off => plainSfr off
  | .xorSaddrSaddr _ _ => true
  | .xorAMem _ => true
  | .xorMemA _ => true
  | .orAByte _ => true
  | .orSaddrByte _ _ => true
  | .orSfrByte off _ => plainSfr off
  | .orRR1 _ _ => true
  | .orASaddr _ => true
  | .orASfr off => plainSfr off
  | .orSaddrSaddr _ _ => true
  | .orAMem _ => true
  | .orMemA _ => true
  | .cmpAByte _ => true
  | .cmpSaddrByte _ _ => true
  | .cmpSfrByte off _ => plainSfr off
  | .cmpRR1 _ _ => true
  | .cmpASaddr _ => true
  | .cmpASfr off => plainSfr off
  | .cmpSaddrSaddr _ _ => true
  | .cmpAMem _ => true
  | .cmpMemA _ => true
  | .addwAxWord _ => true
  | .addwSaddrpWord off _ => evenOffset off
  | .addwSfrpWord off _ => evenOffset off && plainSfr off
  | .addwRpRp1 _ _ => true
  | .addwAxSaddrp off => evenOffset off
  | .addwAxSfrp off => evenOffset off && plainSfr off
  | .addwSaddrpSaddrp dst src => evenOffset dst && evenOffset src
  | .subwAxWord _ => true
  | .subwSaddrpWord off _ => evenOffset off
  | .subwSfrpWord off _ => evenOffset off && plainSfr off
  | .subwRpRp1 _ _ => true
  | .subwAxSaddrp off => evenOffset off
  | .subwAxSfrp off => evenOffset off && plainSfr off
  | .subwSaddrpSaddrp dst src => evenOffset dst && evenOffset src
  | .cmpwAxWord _ => true
  | .cmpwSaddrpWord off _ => evenOffset off
  | .cmpwSfrpWord off _ => evenOffset off && plainSfr off
  | .cmpwRpRp1 _ _ => true
  | .cmpwAxSaddrp off => evenOffset off
  | .cmpwAxSfrp off => evenOffset off && plainSfr off
  | .cmpwSaddrpSaddrp dst src => evenOffset dst && evenOffset src
  | .muluR1 _ => true
  | .divuwR1 _ => true
  | .muluwRp1 _ => true
  | .divuxRp1 _ => true
  | .incR1 _ => true
  | .incSaddr _ => true
  | .decR1 _ => true
  | .decSaddr _ => true
  | .incwRp2 _ => true
  | .incwSaddrp off => evenOffset off
  | .decwRp2 _ => true
  | .decwSaddrp off => evenOffset off
  | .rorR1N _ _ => true
  | .rolR1N _ _ => true
  | .rorcR1N _ _ => true
  | .rolcR1N _ _ => true
  | .shrR1N _ _ => true
  | .shlR1N _ _ => true
  | .shrwRp1N _ _ => true
  | .shlwRp1N _ _ => true
  | .ror4IndRp1 _ => true
  | .rol4IndRp1 _ => true
  | .adj4 => true
  | .mov1CySaddrBit _ _ => true
  | .mov1CySfrBit off _ => plainSfr off
  | .mov1CyABit _ => true
  | .mov1CyXBit _ => true
  | .mov1CyPswhBit _ => true
  | .mov1CyPswlBit _ => true
  | .mov1SaddrBitCy _ _ => true
  | .mov1SfrBitCy off _ => plainSfr off
  | .mov1ABitCy _ => true
  | .mov1XBitCy _ => true
  | .mov1PswhBitCy _ => true
  | .mov1PswlBitCy _ => true
  | .and1CySaddrBit _ _ => true
  | .and1CyNotSaddrBit _ _ => true
  | .and1CySfrBit off _ => plainSfr off
  | .and1CyNotSfrBit off _ => plainSfr off
  | .and1CyABit _ => true
  | .and1CyNotABit _ => true
  | .and1CyXBit _ => true
  | .and1CyNotXBit _ => true
  | .and1CyPswhBit _ => true
  | .and1CyNotPswhBit _ => true
  | .and1CyPswlBit _ => true
  | .and1CyNotPswlBit _ => true
  | .or1CySaddrBit _ _ => true
  | .or1CyNotSaddrBit _ _ => true
  | .or1CySfrBit off _ => plainSfr off
  | .or1CyNotSfrBit off _ => plainSfr off
  | .or1CyABit _ => true
  | .or1CyNotABit _ => true
  | .or1CyXBit _ => true
  | .or1CyNotXBit _ => true
  | .or1CyPswhBit _ => true
  | .or1CyNotPswhBit _ => true
  | .or1CyPswlBit _ => true
  | .or1CyNotPswlBit _ => true
  | .xor1CySaddrBit _ _ => true
  | .xor1CySfrBit off _ => plainSfr off
  | .xor1CyABit _ => true
  | .xor1CyXBit _ => true
  | .xor1CyPswhBit _ => true
  | .xor1CyPswlBit _ => true
  | .set1SaddrBit _ _ => true
  | .set1SfrBit off _ => plainSfr off
  | .set1ABit _ => true
  | .set1XBit _ => true
  | .set1PswhBit _ => true
  | .set1PswlBit _ => true
  | .set1Cy => true
  | .clr1SaddrBit _ _ => true
  | .clr1SfrBit off _ => plainSfr off
  | .clr1ABit _ => true
  | .clr1XBit _ => true
  | .clr1PswhBit _ => true
  | .clr1PswlBit _ => true
  | .clr1Cy => true
  | .not1SaddrBit _ _ => true
  | .not1SfrBit off _ => plainSfr off
  | .not1ABit _ => true
  | .not1XBit _ => true
  | .not1PswhBit _ => true
  | .not1PswlBit _ => true
  | .not1Cy => true
  | .callAddr16 _ => true
  | .callfAddr11 _ => true
  | .calltAddr5 _ => true
  | .callRp1 _ => true
  | .callIndRp1 _ => true
  | .brk => true
  | .ret => true
  | .reti => true
  | .pushPost _ => true
  | .pushPsw => true
  | .pushuPost _ => true
  | .popPost _ => true
  | .popPsw => true
  | .popuPost _ => true
  | .movwSpWord _ => true
  | .movwSpAx => true
  | .movwAxSp => true
  | .incwSp => true
  | .decwSp => true
  | .brAddr16 _ => true
  | .brRp1 _ => true
  | .brIndRp1 _ => true
  | .brRel _ => true
  | .bcRel _ => true
  | .bncRel _ => true
  | .bzRel _ => true
  | .bnzRel _ => true
  | .bvRel _ => true
  | .bnvRel _ => true
  | .bnRel _ => true
  | .bpRel _ => true
  | .bgtRel _ => true
  | .bgeRel _ => true
  | .bltRel _ => true
  | .bleRel _ => true
  | .bhRel _ => true
  | .bnhRel _ => true
  | .btSaddrBitRel _ _ _ => true
  | .btSfrBitRel off _ _ => plainSfr off
  | .btABitRel _ _ => true
  | .btXBitRel _ _ => true
  | .btPswhBitRel _ _ => true
  | .btPswlBitRel _ _ => true
  | .bfSaddrBitRel _ _ _ => true
  | .bfSfrBitRel off _ _ => plainSfr off
  | .bfABitRel _ _ => true
  | .bfXBitRel _ _ => true
  | .bfPswhBitRel _ _ => true
  | .bfPswlBitRel _ _ => true
  | .btclrSaddrBitRel _ _ _ => true
  | .btclrSfrBitRel off _ _ => plainSfr off
  | .btclrABitRel _ _ => true
  | .btclrXBitRel _ _ => true
  | .btclrPswhBitRel _ _ => true
  | .btclrPswlBitRel _ _ => true
  | .bfsetSaddrBitRel _ _ _ => true
  | .bfsetSfrBitRel off _ _ => plainSfr off
  | .bfsetABitRel _ _ => true
  | .bfsetXBitRel _ _ => true
  | .bfsetPswhBitRel _ _ => true
  | .bfsetPswlBitRel _ _ => true
  | .dbnzR2Rel _ _ => true
  | .dbnzSaddrRel _ _ => true
  | .brkcsRbn _ => true
  | .retcsAddr16 _ => true
  | .movmInc => true
  | .movmDec => true
  | .movbkInc => true
  | .movbkDec => true
  | .xchmInc => true
  | .xchmDec => true
  | .xchbkInc => true
  | .xchbkDec => true
  | .cmpmeInc => true
  | .cmpmeDec => true
  | .cmpbkeInc => true
  | .cmpbkeDec => true
  | .cmpmneInc => true
  | .cmpmneDec => true
  | .cmpbkneInc => true
  | .cmpbkneDec => true
  | .cmpmcInc => true
  | .cmpmcDec => true
  | .cmpbkcInc => true
  | .cmpbkcDec => true
  | .cmpmncInc => true
  | .cmpmncDec => true
  | .cmpbkncInc => true
  | .cmpbkncDec => true
  | .movStbcByte _ _ => true
  | .movWdmByte _ _ => true
  | .swrs => true
  | .selRbn _ => true
  | .selRbnAlt _ => true
  | .nop => true
  | .ei => true
  | .di => true

end Sys2Proof
end

