-- ==== Sys2Proof/Decode.lean ====
section
/-!
DEFINITION. Decode.lean: from bytes to an instruction (R120, R121, R140 to R150, R153) and from an instruction to its bytes.
-/

namespace Sys2Proof

/-- Why bytes are no instruction (R150). -/
inductive Reject where
  /-- The bytes end before the instruction does. -/
  | truncated
  /-- The first byte is assigned to nothing. -/
  | unassignedFirst (b1 : Byte)
  /-- The second byte is assigned to nothing under this first byte. -/
  | unassignedSecond (b1 b2 : Byte)
  deriving DecidableEq, Repr

/-- An instruction and the bytes after it, or the reason for the rejection. -/
abbrev Decoded := Except Reject (Instr × List Byte)

/-- The permuted code of `rp1` read as a pair number: `k = (q >> 1) + 4 * (q & 1)` (R127). -/
def pairOfQ (q : BitVec 3) : PairNo := q.extractLsb' 0 1 ++ q.extractLsb' 1 2

/-- The permuted code that `rp1` writes for a pair (R127). -/
def qOfPair (k : PairNo) : BitVec 3 := k.extractLsb' 0 2 ++ k.extractLsb' 2 1

/-- The pair an `rp2` code names (R128). -/
def pointerOf (s : BitVec 2) : PointerPair :=
  if s = 0#2 then .vp else if s = 1#2 then .up else if s = 2#2 then .de else .hl

/-- The code of an `rp2` operand (R128). -/
def PointerPair.code : PointerPair → BitVec 2
  | .vp => 0#2 | .up => 1#2 | .de => 2#2 | .hl => 3#2

/-- The register the bit of DBNZ names (R125). -/
def countRegOf (c : BitVec 1) : CountReg := if c = 0#1 then .c else .b

/-- The bit of an `r2` operand (R125). -/
def CountReg.code : CountReg → BitVec 1
  | .c => 0#1 | .b => 1#1

/-- The code of the pointer of a one-byte MOV (R210). -/
def Ptr.code : Ptr → BitVec 3
  | .deInc => 0#3 | .hlInc => 1#3 | .deDec => 2#3 | .hlDec => 3#3 | .de => 4#3 | .hl => 5#3

/-- The memory operand of a one-byte MOV (R101). -/
def Ptr.operand : Ptr → MemOperand
  | .deInc => .deInc | .hlInc => .hlInc | .deDec => .deDec | .hlDec => .hlDec | .de => .de | .hl => .hl

/-- The mode byte of a memory operand (R138). -/
def MemOperand.mode : MemOperand → Byte
  | .deInc | .hlInc | .deDec | .hlDec | .de | .hl | .vp | .up => 0x16#8
  | .deA | .hlA | .deB | .hlB | .vpDe | .vpHl => 0x17#8
  | .deByte _ | .spByte _ | .hlByte _ | .upByte _ | .vpByte _ => 0x06#8
  | .wordDe _ | .wordA _ | .wordHl _ | .wordB _ => 0x0A#8

/-- The `mem` field of a memory operand (R101 to R104). -/
def MemOperand.code : MemOperand → BitVec 3
  | .deInc => 0#3 | .hlInc => 1#3 | .deDec => 2#3 | .hlDec => 3#3 | .de => 4#3 | .hl => 5#3 | .vp => 6#3 | .up => 7#3
  | .deA => 0#3 | .hlA => 1#3 | .deB => 2#3 | .hlB => 3#3 | .vpDe => 4#3 | .vpHl => 5#3
  | .deByte _ => 0#3 | .spByte _ => 1#3 | .hlByte _ => 2#3 | .upByte _ => 3#3 | .vpByte _ => 4#3
  | .wordDe _ => 0#3 | .wordA _ => 1#3 | .wordHl _ => 2#3 | .wordB _ => 3#3

/-- The offset bytes of a memory operand (R103, R104). -/
def MemOperand.offsets : MemOperand → List Byte
  | .deByte b | .spByte b | .hlByte b | .upByte b | .vpByte b => [b]
  | .wordDe w | .wordA w | .wordHl w | .wordB w => [Word.lo w, Word.hi w]
  | _ => []

/-- How many bytes an instruction with this memory operand has (R147). -/
def MemOperand.length (m : MemOperand) : Nat := 2 + m.offsets.length

/-- One more byte of the instruction. -/
def get1 (bs : List Byte) (f : Byte → Instr) : Decoded :=
  match bs with
  | a :: tl => .ok (f a, tl)
  | _ => .error .truncated

/-- Two more bytes of the instruction. -/
def get2 (bs : List Byte) (f : Byte → Byte → Instr) : Decoded :=
  match bs with
  | a :: b :: tl => .ok (f a b, tl)
  | _ => .error .truncated

/-- Three more bytes of the instruction. -/
def get3 (bs : List Byte) (f : Byte → Byte → Byte → Instr) : Decoded :=
  match bs with
  | a :: b :: c :: tl => .ok (f a b c, tl)
  | _ => .error .truncated

/-- The register byte: `RRRR0rrr` is the byte form, `PPP01QQQ` the pair form where there is one (R148). -/
def getRegs (b1 : Byte) (bs : List Byte) (byteForm : RegNo → Reg8 → Instr)
    (pairForm : Option (PairNo → PairNo → Instr)) : Decoded :=
  match bs with
  | [] => .error .truncated
  | b :: tl =>
    if b.extractLsb' 3 1 = 0#1 then .ok (byteForm (b.extractLsb' 4 4) (b.extractLsb' 0 3), tl)
    else if b.extractLsb' 4 1 = 0#1 then
      match pairForm with
      | some f => .ok (f (b.extractLsb' 5 3) (pairOfQ (b.extractLsb' 0 3)), tl)
      | none => .error (.unassignedSecond b1 b)
    else .error (.unassignedSecond b1 b)

/-- The shift byte `k1 k0 NNN RRR` (R149): rotate through carry, rotate, shift, shift a pair. -/
def getShift (bs : List Byte) (rotateCarry rotate shift : Reg8 → BitVec 3 → Instr)
    (shiftPair : PairNo → BitVec 3 → Instr) : Decoded :=
  get1 bs fun b =>
    let r := b.extractLsb' 0 3
    let n := b.extractLsb' 3 3
    if b.extractLsb' 6 2 = 0#2 then rotateCarry r n
    else if b.extractLsb' 6 2 = 1#2 then rotate r n
    else if b.extractLsb' 6 2 = 2#2 then shift r n
    else shiftPair (pairOfQ r) n

/-- The memory operand a mode byte, a `mem` field and the offset bytes name, and the bytes after them, or `none` where
the mode leaves the field undefined (R101 to R104); `some none` where the offset bytes are missing. -/
def memOperand (mode : Byte) (mem : BitVec 3) (bs : List Byte) : Option (Option (MemOperand × List Byte)) :=
  if mode = 0x16#8 then
    some (some (match mem with
      | 0#3 => .deInc | 1#3 => .hlInc | 2#3 => .deDec | 3#3 => .hlDec
      | 4#3 => .de | 5#3 => .hl | 6#3 => .vp | 7#3 => .up, bs))
  else if mode = 0x17#8 then
    match mem with
    | 0#3 => some (some (.deA, bs)) | 1#3 => some (some (.hlA, bs)) | 2#3 => some (some (.deB, bs))
    | 3#3 => some (some (.hlB, bs)) | 4#3 => some (some (.vpDe, bs)) | 5#3 => some (some (.vpHl, bs))
    | _ => none
  else if mode = 0x06#8 then
    let f? : Option (Byte → MemOperand) := match mem with
      | 0#3 => some .deByte | 1#3 => some .spByte | 2#3 => some .hlByte
      | 3#3 => some .upByte | 4#3 => some .vpByte | _ => none
    match f?, bs with
    | some f, b :: tl => some (some (f b, tl))
    | some _, [] => some none
    | none, _ => none
  else
    let f? : Option (Word → MemOperand) := match mem with
      | 0#3 => some .wordDe | 1#3 => some .wordA | 2#3 => some .wordHl | 3#3 => some .wordB | _ => none
    match f?, bs with
    | some f, l :: h :: tl => some (some (f (Word.ofBytes l h), tl))
    | some _, _ => some none
    | none, _ => none

/-- The operation of a `mem` form whose destination is not the memory operand, by the low nibble of the second byte (R147). -/
def memLoads (op : BitVec 4) : Option (MemOperand → Instr) :=
  match op with
  | 0b0000#4 => some .movAMem
  | 0b0100#4 => some .xchAMem
  | 0b1000#4 => some .addAMem
  | 0b1001#4 => some .addcAMem
  | 0b1010#4 => some .subAMem
  | 0b1011#4 => some .subcAMem
  | 0b1100#4 => some .andAMem
  | 0b1101#4 => some .xorAMem
  | 0b1110#4 => some .orAMem
  | 0b1111#4 => some .cmpAMem
  | _ => none

/-- The operation of a `mem` form whose first operand is the memory operand (R147). -/
def memStores (op : BitVec 4) : Option (MemOperand → Instr) :=
  match op with
  | 0b0000#4 => some .movMemA
  | 0b1000#4 => some .addMemA
  | 0b1001#4 => some .addcMemA
  | 0b1010#4 => some .subMemA
  | 0b1011#4 => some .subcMemA
  | 0b1100#4 => some .andMemA
  | 0b1101#4 => some .xorMemA
  | 0b1110#4 => some .orMemA
  | 0b1111#4 => some .cmpMemA
  | _ => none

/-- The operation of a `mem` form: the direction bit and the low nibble of the second byte (R147). -/
def memOperation (toMem : BitVec 1) (op : BitVec 4) : Option (MemOperand → Instr) :=
  if toMem = 0#1 then memLoads op else memStores op

/-- A `mem` form: second byte `D mmm oooo`, then the offset bytes (R138, R147). -/
def decodeMem (mode : Byte) (bs : List Byte) : Decoded :=
  match bs with
  | [] => .error .truncated
  | b :: tl =>
    match memOperation (b.extractLsb' 7 1) (b.extractLsb' 0 4), memOperand mode (b.extractLsb' 4 3) tl with
    | some f, some (some (m, rest)) => .ok (f m, rest)
    | some _, some none => .error .truncated
    | _, _ => .error (.unassignedSecond mode b)

-- The compiled form of a constructor with arguments has a tag, and Lean's runtime has 245 of them; Instr has 277 such
-- constructors, so what builds an Instr has no compiled code. The kernel evaluates it all the same.
noncomputable section

/-- The instructions after the first byte 01H (R141), by the five high and three low bits of the second byte. -/
def second01 (b2 : Byte) (g : BitVec 5) (f : BitVec 3) (bs : List Byte) : Decoded :=
  match g with
  | 0b00001#5 =>
    match f with
    | 0b000#3 => .error (.unassignedSecond 0x01#8 b2)
    | 0b001#3 => .error (.unassignedSecond 0x01#8 b2)
    | 0b010#3 => .error (.unassignedSecond 0x01#8 b2)
    | 0b011#3 => .error (.unassignedSecond 0x01#8 b2)
    | 0b100#3 => .error (.unassignedSecond 0x01#8 b2)
    | 0b101#3 => get3 bs fun o l h => .addwSfrpWord o (Word.ofBytes l h)
    | 0b110#3 => get3 bs fun o l h => .subwSfrpWord o (Word.ofBytes l h)
    | 0b111#3 => get3 bs fun o l h => .cmpwSfrpWord o (Word.ofBytes l h)
  | 0b00011#5 =>
    match f with
    | 0b000#3 => .error (.unassignedSecond 0x01#8 b2)
    | 0b001#3 => .error (.unassignedSecond 0x01#8 b2)
    | 0b010#3 => .error (.unassignedSecond 0x01#8 b2)
    | 0b011#3 => get1 bs fun o => .xchwAxSfrp o
    | 0b100#3 => .error (.unassignedSecond 0x01#8 b2)
    | 0b101#3 => get1 bs fun o => .addwAxSfrp o
    | 0b110#3 => get1 bs fun o => .subwAxSfrp o
    | 0b111#3 => get1 bs fun o => .cmpwAxSfrp o
  | 0b00100#5 =>
    match f with
    | 0b000#3 => .error (.unassignedSecond 0x01#8 b2)
    | 0b001#3 => get1 bs fun o => .xchASfr o
    | 0b010#3 => .error (.unassignedSecond 0x01#8 b2)
    | 0b011#3 => .error (.unassignedSecond 0x01#8 b2)
    | 0b100#3 => .error (.unassignedSecond 0x01#8 b2)
    | 0b101#3 => .error (.unassignedSecond 0x01#8 b2)
    | 0b110#3 => .error (.unassignedSecond 0x01#8 b2)
    | 0b111#3 => .error (.unassignedSecond 0x01#8 b2)
  | 0b01101#5 =>
    match f with
    | 0b000#3 => get2 bs fun o d => .addSfrByte o d
    | 0b001#3 => get2 bs fun o d => .addcSfrByte o d
    | 0b010#3 => get2 bs fun o d => .subSfrByte o d
    | 0b011#3 => get2 bs fun o d => .subcSfrByte o d
    | 0b100#3 => get2 bs fun o d => .andSfrByte o d
    | 0b101#3 => get2 bs fun o d => .xorSfrByte o d
    | 0b110#3 => get2 bs fun o d => .orSfrByte o d
    | 0b111#3 => get2 bs fun o d => .cmpSfrByte o d
  | 0b10011#5 =>
    match f with
    | 0b000#3 => get1 bs fun o => .addASfr o
    | 0b001#3 => get1 bs fun o => .addcASfr o
    | 0b010#3 => get1 bs fun o => .subASfr o
    | 0b011#3 => get1 bs fun o => .subcASfr o
    | 0b100#3 => get1 bs fun o => .andASfr o
    | 0b101#3 => get1 bs fun o => .xorASfr o
    | 0b110#3 => get1 bs fun o => .orASfr o
    | 0b111#3 => get1 bs fun o => .cmpASfr o
  | _ => .error (.unassignedSecond 0x01#8 b2)

/-- Decoding after the first byte 01H. -/
def decode01 (bs : List Byte) : Decoded :=
  match bs with
  | [] => .error .truncated
  | b2 :: tl => second01 b2 (b2.extractLsb' 3 5) (b2.extractLsb' 0 3) tl

/-- The instructions after the first byte 02H (R142), by the five high and three low bits of the second byte. -/
def second02 (b2 : Byte) (g : BitVec 5) (f : BitVec 3) (bs : List Byte) : Decoded :=
  match g with
  | 0b00000#5 => .ok (.mov1CyPswlBit f, bs)
  | 0b00001#5 => .ok (.mov1CyPswhBit f, bs)
  | 0b00010#5 => .ok (.mov1PswlBitCy f, bs)
  | 0b00011#5 => .ok (.mov1PswhBitCy f, bs)
  | 0b00100#5 => .ok (.and1CyPswlBit f, bs)
  | 0b00101#5 => .ok (.and1CyPswhBit f, bs)
  | 0b00110#5 => .ok (.and1CyNotPswlBit f, bs)
  | 0b00111#5 => .ok (.and1CyNotPswhBit f, bs)
  | 0b01000#5 => .ok (.or1CyPswlBit f, bs)
  | 0b01001#5 => .ok (.or1CyPswhBit f, bs)
  | 0b01010#5 => .ok (.or1CyNotPswlBit f, bs)
  | 0b01011#5 => .ok (.or1CyNotPswhBit f, bs)
  | 0b01100#5 => .ok (.xor1CyPswlBit f, bs)
  | 0b01101#5 => .ok (.xor1CyPswhBit f, bs)
  | 0b01110#5 => .ok (.not1PswlBit f, bs)
  | 0b01111#5 => .ok (.not1PswhBit f, bs)
  | 0b10000#5 => .ok (.set1PswlBit f, bs)
  | 0b10001#5 => .ok (.set1PswhBit f, bs)
  | 0b10010#5 => .ok (.clr1PswlBit f, bs)
  | 0b10011#5 => .ok (.clr1PswhBit f, bs)
  | 0b10100#5 => get1 bs fun j => .bfPswlBitRel f j
  | 0b10101#5 => get1 bs fun j => .bfPswhBitRel f j
  | 0b10110#5 => get1 bs fun j => .btPswlBitRel f j
  | 0b10111#5 => get1 bs fun j => .btPswhBitRel f j
  | 0b11000#5 => get1 bs fun j => .bfsetPswlBitRel f j
  | 0b11001#5 => get1 bs fun j => .bfsetPswhBitRel f j
  | 0b11010#5 => get1 bs fun j => .btclrPswlBitRel f j
  | 0b11011#5 => get1 bs fun j => .btclrPswhBitRel f j
  | _ => .error (.unassignedSecond 0x02#8 b2)

/-- Decoding after the first byte 02H. -/
def decode02 (bs : List Byte) : Decoded :=
  match bs with
  | [] => .error .truncated
  | b2 :: tl => second02 b2 (b2.extractLsb' 3 5) (b2.extractLsb' 0 3) tl

/-- The instructions after the first byte 03H (R142), by the five high and three low bits of the second byte. -/
def second03 (b2 : Byte) (g : BitVec 5) (f : BitVec 3) (bs : List Byte) : Decoded :=
  match g with
  | 0b00000#5 => .ok (.mov1CyXBit f, bs)
  | 0b00001#5 => .ok (.mov1CyABit f, bs)
  | 0b00010#5 => .ok (.mov1XBitCy f, bs)
  | 0b00011#5 => .ok (.mov1ABitCy f, bs)
  | 0b00100#5 => .ok (.and1CyXBit f, bs)
  | 0b00101#5 => .ok (.and1CyABit f, bs)
  | 0b00110#5 => .ok (.and1CyNotXBit f, bs)
  | 0b00111#5 => .ok (.and1CyNotABit f, bs)
  | 0b01000#5 => .ok (.or1CyXBit f, bs)
  | 0b01001#5 => .ok (.or1CyABit f, bs)
  | 0b01010#5 => .ok (.or1CyNotXBit f, bs)
  | 0b01011#5 => .ok (.or1CyNotABit f, bs)
  | 0b01100#5 => .ok (.xor1CyXBit f, bs)
  | 0b01101#5 => .ok (.xor1CyABit f, bs)
  | 0b01110#5 => .ok (.not1XBit f, bs)
  | 0b01111#5 => .ok (.not1ABit f, bs)
  | 0b10000#5 => .ok (.set1XBit f, bs)
  | 0b10001#5 => .ok (.set1ABit f, bs)
  | 0b10010#5 => .ok (.clr1XBit f, bs)
  | 0b10011#5 => .ok (.clr1ABit f, bs)
  | 0b10100#5 => get1 bs fun j => .bfXBitRel f j
  | 0b10101#5 => get1 bs fun j => .bfABitRel f j
  | 0b10110#5 => get1 bs fun j => .btXBitRel f j
  | 0b10111#5 => get1 bs fun j => .btABitRel f j
  | 0b11000#5 => get1 bs fun j => .bfsetXBitRel f j
  | 0b11001#5 => get1 bs fun j => .bfsetABitRel f j
  | 0b11010#5 => get1 bs fun j => .btclrXBitRel f j
  | 0b11011#5 => get1 bs fun j => .btclrABitRel f j
  | _ => .error (.unassignedSecond 0x03#8 b2)

/-- Decoding after the first byte 03H. -/
def decode03 (bs : List Byte) : Decoded :=
  match bs with
  | [] => .error .truncated
  | b2 :: tl => second03 b2 (b2.extractLsb' 3 5) (b2.extractLsb' 0 3) tl

/-- The instructions after the first byte 05H (R143), by the five high and three low bits of the second byte. -/
def second05 (b2 : Byte) (g : BitVec 5) (f : BitVec 3) (bs : List Byte) : Decoded :=
  match g with
  | 0b00001#5 => .ok (.muluR1 f, bs)
  | 0b00011#5 => .ok (.divuwR1 f, bs)
  | 0b00101#5 => .ok (.muluwRp1 (pairOfQ f), bs)
  | 0b01001#5 => .ok (.brRp1 (pairOfQ f), bs)
  | 0b01011#5 => .ok (.callRp1 (pairOfQ f), bs)
  | 0b01101#5 => .ok (.brIndRp1 (pairOfQ f), bs)
  | 0b01111#5 => .ok (.callIndRp1 (pairOfQ f), bs)
  | 0b10001#5 => .ok (.ror4IndRp1 (pairOfQ f), bs)
  | 0b10011#5 => .ok (.rol4IndRp1 (pairOfQ f), bs)
  | 0b10101#5 => .ok (.selRbn f, bs)
  | 0b10111#5 => .ok (.selRbnAlt f, bs)
  | 0b11001#5 =>
    match f with
    | 0b000#3 => .ok (.incwSp, bs)
    | 0b001#3 => .ok (.decwSp, bs)
    | 0b010#3 => .error (.unassignedSecond 0x05#8 b2)
    | 0b011#3 => .error (.unassignedSecond 0x05#8 b2)
    | 0b100#3 => .error (.unassignedSecond 0x05#8 b2)
    | 0b101#3 => .error (.unassignedSecond 0x05#8 b2)
    | 0b110#3 => .error (.unassignedSecond 0x05#8 b2)
    | 0b111#3 => .error (.unassignedSecond 0x05#8 b2)
  | 0b11011#5 => .ok (.brkcsRbn f, bs)
  | 0b11101#5 => .ok (.divuxRp1 (pairOfQ f), bs)
  | _ => .error (.unassignedSecond 0x05#8 b2)

/-- Decoding after the first byte 05H. -/
def decode05 (bs : List Byte) : Decoded :=
  match bs with
  | [] => .error .truncated
  | b2 :: tl => second05 b2 (b2.extractLsb' 3 5) (b2.extractLsb' 0 3) tl

/-- The instructions after the first byte 07H (R144), by the five high and three low bits of the second byte. -/
def second07 (b2 : Byte) (g : BitVec 5) (f : BitVec 3) (bs : List Byte) : Decoded :=
  match g with
  | 0b11101#5 =>
    match f with
    | 0b000#3 => get1 bs fun o => .incwSaddrp o
    | 0b001#3 => get1 bs fun o => .decwSaddrp o
    | 0b010#3 => .error (.unassignedSecond 0x07#8 b2)
    | 0b011#3 => .error (.unassignedSecond 0x07#8 b2)
    | 0b100#3 => .error (.unassignedSecond 0x07#8 b2)
    | 0b101#3 => .error (.unassignedSecond 0x07#8 b2)
    | 0b110#3 => .error (.unassignedSecond 0x07#8 b2)
    | 0b111#3 => .error (.unassignedSecond 0x07#8 b2)
  | 0b11111#5 =>
    match f with
    | 0b000#3 => get1 bs fun j => .bltRel j
    | 0b001#3 => get1 bs fun j => .bgeRel j
    | 0b010#3 => get1 bs fun j => .bleRel j
    | 0b011#3 => get1 bs fun j => .bgtRel j
    | 0b100#3 => get1 bs fun j => .bnhRel j
    | 0b101#3 => get1 bs fun j => .bhRel j
    | 0b110#3 => .error (.unassignedSecond 0x07#8 b2)
    | 0b111#3 => .error (.unassignedSecond 0x07#8 b2)
  | _ => .error (.unassignedSecond 0x07#8 b2)

/-- Decoding after the first byte 07H. -/
def decode07 (bs : List Byte) : Decoded :=
  match bs with
  | [] => .error .truncated
  | b2 :: tl => second07 b2 (b2.extractLsb' 3 5) (b2.extractLsb' 0 3) tl

/-- The instructions after the first byte 08H (R142), by the five high and three low bits of the second byte. -/
def second08 (b2 : Byte) (g : BitVec 5) (f : BitVec 3) (bs : List Byte) : Decoded :=
  match g with
  | 0b00000#5 => get1 bs fun o => .mov1CySaddrBit o f
  | 0b00001#5 => get1 bs fun o => .mov1CySfrBit o f
  | 0b00010#5 => get1 bs fun o => .mov1SaddrBitCy o f
  | 0b00011#5 => get1 bs fun o => .mov1SfrBitCy o f
  | 0b00100#5 => get1 bs fun o => .and1CySaddrBit o f
  | 0b00101#5 => get1 bs fun o => .and1CySfrBit o f
  | 0b00110#5 => get1 bs fun o => .and1CyNotSaddrBit o f
  | 0b00111#5 => get1 bs fun o => .and1CyNotSfrBit o f
  | 0b01000#5 => get1 bs fun o => .or1CySaddrBit o f
  | 0b01001#5 => get1 bs fun o => .or1CySfrBit o f
  | 0b01010#5 => get1 bs fun o => .or1CyNotSaddrBit o f
  | 0b01011#5 => get1 bs fun o => .or1CyNotSfrBit o f
  | 0b01100#5 => get1 bs fun o => .xor1CySaddrBit o f
  | 0b01101#5 => get1 bs fun o => .xor1CySfrBit o f
  | 0b01110#5 => get1 bs fun o => .not1SaddrBit o f
  | 0b01111#5 => get1 bs fun o => .not1SfrBit o f
  | 0b10001#5 => get1 bs fun o => .set1SfrBit o f
  | 0b10011#5 => get1 bs fun o => .clr1SfrBit o f
  | 0b10100#5 => get2 bs fun o j => .bfSaddrBitRel o f j
  | 0b10101#5 => get2 bs fun o j => .bfSfrBitRel o f j
  | 0b10111#5 => get2 bs fun o j => .btSfrBitRel o f j
  | 0b11000#5 => get2 bs fun o j => .bfsetSaddrBitRel o f j
  | 0b11001#5 => get2 bs fun o j => .bfsetSfrBitRel o f j
  | 0b11010#5 => get2 bs fun o j => .btclrSaddrBitRel o f j
  | 0b11011#5 => get2 bs fun o j => .btclrSfrBitRel o f j
  | _ => .error (.unassignedSecond 0x08#8 b2)

/-- Decoding after the first byte 08H. -/
def decode08 (bs : List Byte) : Decoded :=
  match bs with
  | [] => .error .truncated
  | b2 :: tl => second08 b2 (b2.extractLsb' 3 5) (b2.extractLsb' 0 3) tl

/-- The instructions after the first byte 09H (R145), by the five high and three low bits of the second byte. -/
def second09 (b2 : Byte) (g : BitVec 5) (f : BitVec 3) (bs : List Byte) : Decoded :=
  match g with
  | 0b01000#5 =>
    match f with
    | 0b000#3 => .error (.unassignedSecond 0x09#8 b2)
    | 0b001#3 => .error (.unassignedSecond 0x09#8 b2)
    | 0b010#3 => get2 bs fun x d => .movWdmByte x d
    | 0b011#3 => .error (.unassignedSecond 0x09#8 b2)
    | 0b100#3 => get2 bs fun x d => .movStbcByte x d
    | 0b101#3 => .error (.unassignedSecond 0x09#8 b2)
    | 0b110#3 => .error (.unassignedSecond 0x09#8 b2)
    | 0b111#3 => .error (.unassignedSecond 0x09#8 b2)
  | 0b10000#5 => get2 bs fun l h => .movwRp1Addr16 (pairOfQ f) (Word.ofBytes l h)
  | 0b10010#5 => get2 bs fun l h => .movwAddr16Rp1 (Word.ofBytes l h) (pairOfQ f)
  | 0b11110#5 =>
    match f with
    | 0b000#3 => get2 bs fun l h => .movAAddr16 (Word.ofBytes l h)
    | 0b001#3 => get2 bs fun l h => .movAddr16A (Word.ofBytes l h)
    | 0b010#3 => .error (.unassignedSecond 0x09#8 b2)
    | 0b011#3 => .error (.unassignedSecond 0x09#8 b2)
    | 0b100#3 => .error (.unassignedSecond 0x09#8 b2)
    | 0b101#3 => .error (.unassignedSecond 0x09#8 b2)
    | 0b110#3 => .error (.unassignedSecond 0x09#8 b2)
    | 0b111#3 => .error (.unassignedSecond 0x09#8 b2)
  | _ => .error (.unassignedSecond 0x09#8 b2)

/-- Decoding after the first byte 09H. -/
def decode09 (bs : List Byte) : Decoded :=
  match bs with
  | [] => .error .truncated
  | b2 :: tl => second09 b2 (b2.extractLsb' 3 5) (b2.extractLsb' 0 3) tl

/-- The instructions after the first byte 15H (R146), by the five high and three low bits of the second byte. -/
def second15 (b2 : Byte) (g : BitVec 5) (f : BitVec 3) (bs : List Byte) : Decoded :=
  match g with
  | 0b00000#5 =>
    match f with
    | 0b000#3 => .ok (.movmInc, bs)
    | 0b001#3 => .ok (.xchmInc, bs)
    | 0b010#3 => .error (.unassignedSecond 0x15#8 b2)
    | 0b011#3 => .error (.unassignedSecond 0x15#8 b2)
    | 0b100#3 => .ok (.cmpmeInc, bs)
    | 0b101#3 => .ok (.cmpmneInc, bs)
    | 0b110#3 => .ok (.cmpmncInc, bs)
    | 0b111#3 => .ok (.cmpmcInc, bs)
  | 0b00010#5 =>
    match f with
    | 0b000#3 => .ok (.movmDec, bs)
    | 0b001#3 => .ok (.xchmDec, bs)
    | 0b010#3 => .error (.unassignedSecond 0x15#8 b2)
    | 0b011#3 => .error (.unassignedSecond 0x15#8 b2)
    | 0b100#3 => .ok (.cmpmeDec, bs)
    | 0b101#3 => .ok (.cmpmneDec, bs)
    | 0b110#3 => .ok (.cmpmncDec, bs)
    | 0b111#3 => .ok (.cmpmcDec, bs)
  | 0b00100#5 =>
    match f with
    | 0b000#3 => .ok (.movbkInc, bs)
    | 0b001#3 => .ok (.xchbkInc, bs)
    | 0b010#3 => .error (.unassignedSecond 0x15#8 b2)
    | 0b011#3 => .error (.unassignedSecond 0x15#8 b2)
    | 0b100#3 => .ok (.cmpbkeInc, bs)
    | 0b101#3 => .ok (.cmpbkneInc, bs)
    | 0b110#3 => .ok (.cmpbkncInc, bs)
    | 0b111#3 => .ok (.cmpbkcInc, bs)
  | 0b00110#5 =>
    match f with
    | 0b000#3 => .ok (.movbkDec, bs)
    | 0b001#3 => .ok (.xchbkDec, bs)
    | 0b010#3 => .error (.unassignedSecond 0x15#8 b2)
    | 0b011#3 => .error (.unassignedSecond 0x15#8 b2)
    | 0b100#3 => .ok (.cmpbkeDec, bs)
    | 0b101#3 => .ok (.cmpbkneDec, bs)
    | 0b110#3 => .ok (.cmpbkncDec, bs)
    | 0b111#3 => .ok (.cmpbkcDec, bs)
  | _ => .error (.unassignedSecond 0x15#8 b2)

/-- Decoding after the first byte 15H. -/
def decode15 (bs : List Byte) : Decoded :=
  match bs with
  | [] => .error .truncated
  | b2 :: tl => second15 b2 (b2.extractLsb' 3 5) (b2.extractLsb' 0 3) tl

/-- The instructions by the five high and three low bits of the first byte (R140). -/
def first (b1 : Byte) (g : BitVec 5) (f : BitVec 3) (bs : List Byte) : Decoded :=
  match g with
  | 0b00000#5 =>
    match f with
    | 0b000#3 => .ok (.nop, bs)
    | 0b001#3 => decode01 bs
    | 0b010#3 => decode02 bs
    | 0b011#3 => decode03 bs
    | 0b100#3 => .ok (.adj4, bs)
    | 0b101#3 => decode05 bs
    | 0b110#3 => decodeMem 0x06#8 bs
    | 0b111#3 => decode07 bs
  | 0b00001#5 =>
    match f with
    | 0b000#3 => decode08 bs
    | 0b001#3 => decode09 bs
    | 0b010#3 => decodeMem 0x0A#8 bs
    | 0b011#3 => get3 bs fun o l h => if o = 0xFC#8 then .movwSpWord (Word.ofBytes l h) else .movwSfrpWord o (Word.ofBytes l h)
    | 0b100#3 => get3 bs fun o l h => .movwSaddrpWord o (Word.ofBytes l h)
    | 0b101#3 => get3 bs fun o l h => .addwSaddrpWord o (Word.ofBytes l h)
    | 0b110#3 => get3 bs fun o l h => .subwSaddrpWord o (Word.ofBytes l h)
    | 0b111#3 => get3 bs fun o l h => .cmpwSaddrpWord o (Word.ofBytes l h)
  | 0b00010#5 =>
    match f with
    | 0b000#3 => get1 bs fun o => if o = 0xFE#8 then .movAPswl else if o = 0xFF#8 then .movAPswh else .movASfr o
    | 0b001#3 => get1 bs fun o => if o = 0xFC#8 then .movwAxSp else .movwAxSfrp o
    | 0b010#3 => get1 bs fun o => if o = 0xFE#8 then .movPswlA else if o = 0xFF#8 then .movPswhA else .movSfrA o
    | 0b011#3 => get1 bs fun o => if o = 0xFC#8 then .movwSpAx else .movwSfrpAx o
    | 0b100#3 => get1 bs fun j => .brRel j
    | 0b101#3 => decode15 bs
    | 0b110#3 => decodeMem 0x16#8 bs
    | 0b111#3 => decodeMem 0x17#8 bs
  | 0b00011#5 =>
    match f with
    | 0b000#3 => get1 bs fun o => .movAIndSaddrp o
    | 0b001#3 => get1 bs fun o => .movIndSaddrpA o
    | 0b010#3 => get1 bs fun o => .movwSaddrpAx o
    | 0b011#3 => get1 bs fun o => .xchwAxSaddrp o
    | 0b100#3 => get1 bs fun o => .movwAxSaddrp o
    | 0b101#3 => get1 bs fun o => .addwAxSaddrp o
    | 0b110#3 => get1 bs fun o => .subwAxSaddrp o
    | 0b111#3 => get1 bs fun o => .cmpwAxSaddrp o
  | 0b00100#5 =>
    match f with
    | 0b000#3 => get1 bs fun o => .movASaddr o
    | 0b001#3 => get1 bs fun o => .xchASaddr o
    | 0b010#3 => get1 bs fun o => .movSaddrA o
    | 0b011#3 => get1 bs fun o => .xchAIndSaddrp o
    | 0b100#3 => getRegs b1 bs .movRR1 (some .movwRpRp1)
    | 0b101#3 => getRegs b1 bs .xchRR1 (some .xchwRpRp1)
    | 0b110#3 => get1 bs fun o => .incSaddr o
    | 0b111#3 => get1 bs fun o => .decSaddr o
  | 0b00101#5 =>
    match f with
    | 0b000#3 => get2 bs fun l h => .callAddr16 (Word.ofBytes l h)
    | 0b001#3 => get2 bs fun l h => .retcsAddr16 (Word.ofBytes l h)
    | 0b010#3 => get2 bs fun o p => .xchwSaddrpSaddrp p o
    | 0b011#3 => get2 bs fun o d => if o = 0xFE#8 then .movPswlByte d else if o = 0xFF#8 then .movPswhByte d else .movSfrByte o d
    | 0b100#3 => get2 bs fun l h => .brAddr16 (Word.ofBytes l h)
    | 0b101#3 => get2 bs fun l h => .addwAxWord (Word.ofBytes l h)
    | 0b110#3 => get2 bs fun l h => .subwAxWord (Word.ofBytes l h)
    | 0b111#3 => get2 bs fun l h => .cmpwAxWord (Word.ofBytes l h)
  | 0b00110#5 =>
    match f with
    | 0b000#3 => getShift bs .rorcR1N .rorR1N .shrR1N .shrwRp1N
    | 0b001#3 => getShift bs .rolcR1N .rolR1N .shlR1N .shlwRp1N
    | 0b010#3 => get1 bs fun j => .dbnzR2Rel (countRegOf (BitVec.extractLsb' 0 1 0b010#3)) j
    | 0b011#3 => get1 bs fun j => .dbnzR2Rel (countRegOf (BitVec.extractLsb' 0 1 0b011#3)) j
    | 0b100#3 => get1 bs fun p => .popPost p
    | 0b101#3 => get1 bs fun p => .pushPost p
    | 0b110#3 => get1 bs fun p => .popuPost p
    | 0b111#3 => get1 bs fun p => .pushuPost p
  | 0b00111#5 =>
    match f with
    | 0b000#3 => get2 bs fun o p => .movSaddrSaddr p o
    | 0b001#3 => get2 bs fun o p => .xchSaddrSaddr p o
    | 0b010#3 => get2 bs fun o d => .movSaddrByte o d
    | 0b011#3 => get2 bs fun o j => .dbnzSaddrRel o j
    | 0b100#3 => get2 bs fun o p => .movwSaddrpSaddrp p o
    | 0b101#3 => get2 bs fun o p => .addwSaddrpSaddrp p o
    | 0b110#3 => get2 bs fun o p => .subwSaddrpSaddrp p o
    | 0b111#3 => get2 bs fun o p => .cmpwSaddrpSaddrp p o
  | 0b01000#5 =>
    match f with
    | 0b000#3 => .ok (.clr1Cy, bs)
    | 0b001#3 => .ok (.set1Cy, bs)
    | 0b010#3 => .ok (.not1Cy, bs)
    | 0b011#3 => .ok (.swrs, bs)
    | 0b100#3 => .ok (.incwRp2 (pointerOf (BitVec.extractLsb' 0 2 0b100#3)), bs)
    | 0b101#3 => .ok (.incwRp2 (pointerOf (BitVec.extractLsb' 0 2 0b101#3)), bs)
    | 0b110#3 => .ok (.incwRp2 (pointerOf (BitVec.extractLsb' 0 2 0b110#3)), bs)
    | 0b111#3 => .ok (.incwRp2 (pointerOf (BitVec.extractLsb' 0 2 0b111#3)), bs)
  | 0b01001#5 =>
    match f with
    | 0b000#3 => .ok (.popPsw, bs)
    | 0b001#3 => .ok (.pushPsw, bs)
    | 0b010#3 => .ok (.di, bs)
    | 0b011#3 => .ok (.ei, bs)
    | 0b100#3 => .ok (.decwRp2 (pointerOf (BitVec.extractLsb' 0 2 0b100#3)), bs)
    | 0b101#3 => .ok (.decwRp2 (pointerOf (BitVec.extractLsb' 0 2 0b101#3)), bs)
    | 0b110#3 => .ok (.decwRp2 (pointerOf (BitVec.extractLsb' 0 2 0b110#3)), bs)
    | 0b111#3 => .ok (.decwRp2 (pointerOf (BitVec.extractLsb' 0 2 0b111#3)), bs)
  | 0b01010#5 =>
    match f with
    | 0b000#3 => .ok (.movMemA1 .deInc, bs)
    | 0b001#3 => .ok (.movMemA1 .hlInc, bs)
    | 0b010#3 => .ok (.movMemA1 .deDec, bs)
    | 0b011#3 => .ok (.movMemA1 .hlDec, bs)
    | 0b100#3 => .ok (.movMemA1 .de, bs)
    | 0b101#3 => .ok (.movMemA1 .hl, bs)
    | 0b110#3 => .ok (.ret, bs)
    | 0b111#3 => .ok (.reti, bs)
  | 0b01011#5 =>
    match f with
    | 0b000#3 => .ok (.movAMem1 .deInc, bs)
    | 0b001#3 => .ok (.movAMem1 .hlInc, bs)
    | 0b010#3 => .ok (.movAMem1 .deDec, bs)
    | 0b011#3 => .ok (.movAMem1 .hlDec, bs)
    | 0b100#3 => .ok (.movAMem1 .de, bs)
    | 0b101#3 => .ok (.movAMem1 .hl, bs)
    | 0b110#3 => .ok (.brk, bs)
    | 0b111#3 => .error (.unassignedFirst b1)
  | 0b01100#5 => get2 bs fun l h => .movwRp1Word (pairOfQ f) (Word.ofBytes l h)
  | 0b01101#5 =>
    match f with
    | 0b000#3 => get2 bs fun o d => .addSaddrByte o d
    | 0b001#3 => get2 bs fun o d => .addcSaddrByte o d
    | 0b010#3 => get2 bs fun o d => .subSaddrByte o d
    | 0b011#3 => get2 bs fun o d => .subcSaddrByte o d
    | 0b100#3 => get2 bs fun o d => .andSaddrByte o d
    | 0b101#3 => get2 bs fun o d => .xorSaddrByte o d
    | 0b110#3 => get2 bs fun o d => .orSaddrByte o d
    | 0b111#3 => get2 bs fun o d => .cmpSaddrByte o d
  | 0b01110#5 => get2 bs fun o j => .btSaddrBitRel o f j
  | 0b01111#5 =>
    match f with
    | 0b000#3 => get2 bs fun o p => .addSaddrSaddr p o
    | 0b001#3 => get2 bs fun o p => .addcSaddrSaddr p o
    | 0b010#3 => get2 bs fun o p => .subSaddrSaddr p o
    | 0b011#3 => get2 bs fun o p => .subcSaddrSaddr p o
    | 0b100#3 => get2 bs fun o p => .andSaddrSaddr p o
    | 0b101#3 => get2 bs fun o p => .xorSaddrSaddr p o
    | 0b110#3 => get2 bs fun o p => .orSaddrSaddr p o
    | 0b111#3 => get2 bs fun o p => .cmpSaddrSaddr p o
  | 0b10000#5 =>
    match f with
    | 0b000#3 => get1 bs fun j => .bnzRel j
    | 0b001#3 => get1 bs fun j => .bzRel j
    | 0b010#3 => get1 bs fun j => .bncRel j
    | 0b011#3 => get1 bs fun j => .bcRel j
    | 0b100#3 => get1 bs fun j => .bnvRel j
    | 0b101#3 => get1 bs fun j => .bvRel j
    | 0b110#3 => get1 bs fun j => .bpRel j
    | 0b111#3 => get1 bs fun j => .bnRel j
  | 0b10001#5 =>
    match f with
    | 0b000#3 => getRegs b1 bs .addRR1 (some .addwRpRp1)
    | 0b001#3 => getRegs b1 bs .addcRR1 none
    | 0b010#3 => getRegs b1 bs .subRR1 (some .subwRpRp1)
    | 0b011#3 => getRegs b1 bs .subcRR1 none
    | 0b100#3 => getRegs b1 bs .andRR1 none
    | 0b101#3 => getRegs b1 bs .xorRR1 none
    | 0b110#3 => getRegs b1 bs .orRR1 none
    | 0b111#3 => getRegs b1 bs .cmpRR1 (some .cmpwRpRp1)
  | 0b10010#5 => get1 bs fun g => .callfAddr11 (f ++ g)
  | 0b10011#5 =>
    match f with
    | 0b000#3 => get1 bs fun o => .addASaddr o
    | 0b001#3 => get1 bs fun o => .addcASaddr o
    | 0b010#3 => get1 bs fun o => .subASaddr o
    | 0b011#3 => get1 bs fun o => .subcASaddr o
    | 0b100#3 => get1 bs fun o => .andASaddr o
    | 0b101#3 => get1 bs fun o => .xorASaddr o
    | 0b110#3 => get1 bs fun o => .orASaddr o
    | 0b111#3 => get1 bs fun o => .cmpASaddr o
  | 0b10100#5 => get1 bs fun o => .clr1SaddrBit o f
  | 0b10101#5 =>
    match f with
    | 0b000#3 => get1 bs fun d => .addAByte d
    | 0b001#3 => get1 bs fun d => .addcAByte d
    | 0b010#3 => get1 bs fun d => .subAByte d
    | 0b011#3 => get1 bs fun d => .subcAByte d
    | 0b100#3 => get1 bs fun d => .andAByte d
    | 0b101#3 => get1 bs fun d => .xorAByte d
    | 0b110#3 => get1 bs fun d => .orAByte d
    | 0b111#3 => get1 bs fun d => .cmpAByte d
  | 0b10110#5 => get1 bs fun o => .set1SaddrBit o f
  | 0b10111#5 => get1 bs fun d => .movR1Byte f d
  | 0b11000#5 => .ok (.incR1 f, bs)
  | 0b11001#5 => .ok (.decR1 f, bs)
  | 0b11010#5 => .ok (.movAR1 f, bs)
  | 0b11011#5 => .ok (.xchAR1 f, bs)
  | 0b11100#5 => .ok (.calltAddr5 (b1.extractLsb' 0 5), bs)
  | 0b11101#5 => .ok (.calltAddr5 (b1.extractLsb' 0 5), bs)
  | 0b11110#5 => .ok (.calltAddr5 (b1.extractLsb' 0 5), bs)
  | 0b11111#5 => .ok (.calltAddr5 (b1.extractLsb' 0 5), bs)
  | _ => .error (.unassignedFirst b1)

/-- The instruction that bytes begin with, and the bytes after it (R121). Total: every list of bytes gives an instruction or
the name of a rejection. -/
def decode (bs : List Byte) : Decoded :=
  match bs with
  | [] => .error .truncated
  | b1 :: tl => first b1 (b1.extractLsb' 3 5) (b1.extractLsb' 0 3) tl

/-- A byte of five fixed bits and a 3-bit field (R140 to R145). -/
def op5 (g : BitVec 5) (f : BitVec 3) : Byte := g ++ f

/-- The register byte `RRRR0rrr` (R148). -/
def regByte (r : RegNo) (r1 : Reg8) : Byte := r ++ 0#1 ++ r1

/-- The pair byte `PPP01QQQ` (R148). -/
def pairByte (rp rp1 : PairNo) : Byte := rp ++ 0b01#2 ++ qOfPair rp1

/-- The shift byte `k1 k0 NNN RRR` (R149). -/
def shiftByte (k : BitVec 2) (n r : BitVec 3) : Byte := k ++ n ++ r

/-- The bytes of a `mem` form (R138). -/
def memBytes (toMem : BitVec 1) (op : BitVec 4) (m : MemOperand) : List Byte :=
  m.mode :: (toMem ++ m.code ++ op) :: m.offsets

/-- The bytes of an instruction, B1 first, from the same encoding tables (R140 to R149). -/
def encode : Instr → List Byte
  | .movR1Byte r1 byte => [(op5 0b10111#5 r1), byte]
  | .movSaddrByte off byte => [0x3A#8, off, byte]
  | .movSfrByte off byte => [0x2B#8, off, byte]
  | .movRR1 r r1 => [0x24#8, (regByte r r1)]
  | .movAR1 r1 => [(op5 0b11010#5 r1)]
  | .movASaddr off => [0x20#8, off]
  | .movSaddrA off => [0x22#8, off]
  | .movASfr off => [0x10#8, off]
  | .movSfrA off => [0x12#8, off]
  | .movAMem1 m => [(op5 0b01011#5 m.code)]
  | .movAMem m => memBytes 0b0#1 0b0000#4 m
  | .movMemA1 m => [(op5 0b01010#5 m.code)]
  | .movMemA m => memBytes 0b1#1 0b0000#4 m
  | .movPswlByte byte => [0x2B#8, 0xFE#8, byte]
  | .movPswhByte byte => [0x2B#8, 0xFF#8, byte]
  | .movPswlA => [0x12#8, 0xFE#8]
  | .movPswhA => [0x12#8, 0xFF#8]
  | .movAPswl => [0x10#8, 0xFE#8]
  | .movAPswh => [0x10#8, 0xFF#8]
  | .movSaddrSaddr dst src => [0x38#8, src, dst]
  | .movAIndSaddrp off => [0x18#8, off]
  | .movIndSaddrpA off => [0x19#8, off]
  | .movAAddr16 w => [0x09#8, 0xF0#8, (Word.lo w), (Word.hi w)]
  | .movAddr16A w => [0x09#8, 0xF1#8, (Word.lo w), (Word.hi w)]
  | .xchAR1 r1 => [(op5 0b11011#5 r1)]
  | .xchRR1 r r1 => [0x25#8, (regByte r r1)]
  | .xchAMem m => memBytes 0b0#1 0b0100#4 m
  | .xchASaddr off => [0x21#8, off]
  | .xchASfr off => [0x01#8, 0x21#8, off]
  | .xchAIndSaddrp off => [0x23#8, off]
  | .xchSaddrSaddr dst src => [0x39#8, src, dst]
  | .movwRp1Word rp1 w => [(op5 0b01100#5 (qOfPair rp1)), (Word.lo w), (Word.hi w)]
  | .movwSaddrpWord off w => [0x0C#8, off, (Word.lo w), (Word.hi w)]
  | .movwSfrpWord off w => [0x0B#8, off, (Word.lo w), (Word.hi w)]
  | .movwRpRp1 rp rp1 => [0x24#8, (pairByte rp rp1)]
  | .movwAxSaddrp off => [0x1C#8, off]
  | .movwSaddrpAx off => [0x1A#8, off]
  | .movwSaddrpSaddrp dst src => [0x3C#8, src, dst]
  | .movwAxSfrp off => [0x11#8, off]
  | .movwSfrpAx off => [0x13#8, off]
  | .movwRp1Addr16 rp1 w => [0x09#8, (op5 0b10000#5 (qOfPair rp1)), (Word.lo w), (Word.hi w)]
  | .movwAddr16Rp1 w rp1 => [0x09#8, (op5 0b10010#5 (qOfPair rp1)), (Word.lo w), (Word.hi w)]
  | .xchwAxSaddrp off => [0x1B#8, off]
  | .xchwAxSfrp off => [0x01#8, 0x1B#8, off]
  | .xchwSaddrpSaddrp dst src => [0x2A#8, src, dst]
  | .xchwRpRp1 rp rp1 => [0x25#8, (pairByte rp rp1)]
  | .addAByte byte => [0xA8#8, byte]
  | .addSaddrByte off byte => [0x68#8, off, byte]
  | .addSfrByte off byte => [0x01#8, 0x68#8, off, byte]
  | .addRR1 r r1 => [0x88#8, (regByte r r1)]
  | .addASaddr off => [0x98#8, off]
  | .addASfr off => [0x01#8, 0x98#8, off]
  | .addSaddrSaddr dst src => [0x78#8, src, dst]
  | .addAMem m => memBytes 0b0#1 0b1000#4 m
  | .addMemA m => memBytes 0b1#1 0b1000#4 m
  | .addcAByte byte => [0xA9#8, byte]
  | .addcSaddrByte off byte => [0x69#8, off, byte]
  | .addcSfrByte off byte => [0x01#8, 0x69#8, off, byte]
  | .addcRR1 r r1 => [0x89#8, (regByte r r1)]
  | .addcASaddr off => [0x99#8, off]
  | .addcASfr off => [0x01#8, 0x99#8, off]
  | .addcSaddrSaddr dst src => [0x79#8, src, dst]
  | .addcAMem m => memBytes 0b0#1 0b1001#4 m
  | .addcMemA m => memBytes 0b1#1 0b1001#4 m
  | .subAByte byte => [0xAA#8, byte]
  | .subSaddrByte off byte => [0x6A#8, off, byte]
  | .subSfrByte off byte => [0x01#8, 0x6A#8, off, byte]
  | .subRR1 r r1 => [0x8A#8, (regByte r r1)]
  | .subASaddr off => [0x9A#8, off]
  | .subASfr off => [0x01#8, 0x9A#8, off]
  | .subSaddrSaddr dst src => [0x7A#8, src, dst]
  | .subAMem m => memBytes 0b0#1 0b1010#4 m
  | .subMemA m => memBytes 0b1#1 0b1010#4 m
  | .subcAByte byte => [0xAB#8, byte]
  | .subcSaddrByte off byte => [0x6B#8, off, byte]
  | .subcSfrByte off byte => [0x01#8, 0x6B#8, off, byte]
  | .subcRR1 r r1 => [0x8B#8, (regByte r r1)]
  | .subcASaddr off => [0x9B#8, off]
  | .subcASfr off => [0x01#8, 0x9B#8, off]
  | .subcSaddrSaddr dst src => [0x7B#8, src, dst]
  | .subcAMem m => memBytes 0b0#1 0b1011#4 m
  | .subcMemA m => memBytes 0b1#1 0b1011#4 m
  | .andAByte byte => [0xAC#8, byte]
  | .andSaddrByte off byte => [0x6C#8, off, byte]
  | .andSfrByte off byte => [0x01#8, 0x6C#8, off, byte]
  | .andRR1 r r1 => [0x8C#8, (regByte r r1)]
  | .andASaddr off => [0x9C#8, off]
  | .andASfr off => [0x01#8, 0x9C#8, off]
  | .andSaddrSaddr dst src => [0x7C#8, src, dst]
  | .andAMem m => memBytes 0b0#1 0b1100#4 m
  | .andMemA m => memBytes 0b1#1 0b1100#4 m
  | .xorAByte byte => [0xAD#8, byte]
  | .xorSaddrByte off byte => [0x6D#8, off, byte]
  | .xorSfrByte off byte => [0x01#8, 0x6D#8, off, byte]
  | .xorRR1 r r1 => [0x8D#8, (regByte r r1)]
  | .xorASaddr off => [0x9D#8, off]
  | .xorASfr off => [0x01#8, 0x9D#8, off]
  | .xorSaddrSaddr dst src => [0x7D#8, src, dst]
  | .xorAMem m => memBytes 0b0#1 0b1101#4 m
  | .xorMemA m => memBytes 0b1#1 0b1101#4 m
  | .orAByte byte => [0xAE#8, byte]
  | .orSaddrByte off byte => [0x6E#8, off, byte]
  | .orSfrByte off byte => [0x01#8, 0x6E#8, off, byte]
  | .orRR1 r r1 => [0x8E#8, (regByte r r1)]
  | .orASaddr off => [0x9E#8, off]
  | .orASfr off => [0x01#8, 0x9E#8, off]
  | .orSaddrSaddr dst src => [0x7E#8, src, dst]
  | .orAMem m => memBytes 0b0#1 0b1110#4 m
  | .orMemA m => memBytes 0b1#1 0b1110#4 m
  | .cmpAByte byte => [0xAF#8, byte]
  | .cmpSaddrByte off byte => [0x6F#8, off, byte]
  | .cmpSfrByte off byte => [0x01#8, 0x6F#8, off, byte]
  | .cmpRR1 r r1 => [0x8F#8, (regByte r r1)]
  | .cmpASaddr off => [0x9F#8, off]
  | .cmpASfr off => [0x01#8, 0x9F#8, off]
  | .cmpSaddrSaddr dst src => [0x7F#8, src, dst]
  | .cmpAMem m => memBytes 0b0#1 0b1111#4 m
  | .cmpMemA m => memBytes 0b1#1 0b1111#4 m
  | .addwAxWord w => [0x2D#8, (Word.lo w), (Word.hi w)]
  | .addwSaddrpWord off w => [0x0D#8, off, (Word.lo w), (Word.hi w)]
  | .addwSfrpWord off w => [0x01#8, 0x0D#8, off, (Word.lo w), (Word.hi w)]
  | .addwRpRp1 rp rp1 => [0x88#8, (pairByte rp rp1)]
  | .addwAxSaddrp off => [0x1D#8, off]
  | .addwAxSfrp off => [0x01#8, 0x1D#8, off]
  | .addwSaddrpSaddrp dst src => [0x3D#8, src, dst]
  | .subwAxWord w => [0x2E#8, (Word.lo w), (Word.hi w)]
  | .subwSaddrpWord off w => [0x0E#8, off, (Word.lo w), (Word.hi w)]
  | .subwSfrpWord off w => [0x01#8, 0x0E#8, off, (Word.lo w), (Word.hi w)]
  | .subwRpRp1 rp rp1 => [0x8A#8, (pairByte rp rp1)]
  | .subwAxSaddrp off => [0x1E#8, off]
  | .subwAxSfrp off => [0x01#8, 0x1E#8, off]
  | .subwSaddrpSaddrp dst src => [0x3E#8, src, dst]
  | .cmpwAxWord w => [0x2F#8, (Word.lo w), (Word.hi w)]
  | .cmpwSaddrpWord off w => [0x0F#8, off, (Word.lo w), (Word.hi w)]
  | .cmpwSfrpWord off w => [0x01#8, 0x0F#8, off, (Word.lo w), (Word.hi w)]
  | .cmpwRpRp1 rp rp1 => [0x8F#8, (pairByte rp rp1)]
  | .cmpwAxSaddrp off => [0x1F#8, off]
  | .cmpwAxSfrp off => [0x01#8, 0x1F#8, off]
  | .cmpwSaddrpSaddrp dst src => [0x3F#8, src, dst]
  | .muluR1 r1 => [0x05#8, (op5 0b00001#5 r1)]
  | .divuwR1 r1 => [0x05#8, (op5 0b00011#5 r1)]
  | .muluwRp1 rp1 => [0x05#8, (op5 0b00101#5 (qOfPair rp1))]
  | .divuxRp1 rp1 => [0x05#8, (op5 0b11101#5 (qOfPair rp1))]
  | .incR1 r1 => [(op5 0b11000#5 r1)]
  | .incSaddr off => [0x26#8, off]
  | .decR1 r1 => [(op5 0b11001#5 r1)]
  | .decSaddr off => [0x27#8, off]
  | .incwRp2 rp2 => [(op5 0b01000#5 (0b1#1 ++ rp2.code))]
  | .incwSaddrp off => [0x07#8, 0xE8#8, off]
  | .decwRp2 rp2 => [(op5 0b01001#5 (0b1#1 ++ rp2.code))]
  | .decwSaddrp off => [0x07#8, 0xE9#8, off]
  | .rorR1N r1 n => [0x30#8, (shiftByte 0b01#2 n r1)]
  | .rolR1N r1 n => [0x31#8, (shiftByte 0b01#2 n r1)]
  | .rorcR1N r1 n => [0x30#8, (shiftByte 0b00#2 n r1)]
  | .rolcR1N r1 n => [0x31#8, (shiftByte 0b00#2 n r1)]
  | .shrR1N r1 n => [0x30#8, (shiftByte 0b10#2 n r1)]
  | .shlR1N r1 n => [0x31#8, (shiftByte 0b10#2 n r1)]
  | .shrwRp1N rp1 n => [0x30#8, (shiftByte 0b11#2 n (qOfPair rp1))]
  | .shlwRp1N rp1 n => [0x31#8, (shiftByte 0b11#2 n (qOfPair rp1))]
  | .ror4IndRp1 rp1 => [0x05#8, (op5 0b10001#5 (qOfPair rp1))]
  | .rol4IndRp1 rp1 => [0x05#8, (op5 0b10011#5 (qOfPair rp1))]
  | .adj4 => [0x04#8]
  | .mov1CySaddrBit off bit => [0x08#8, (op5 0b00000#5 bit), off]
  | .mov1CySfrBit off bit => [0x08#8, (op5 0b00001#5 bit), off]
  | .mov1CyABit bit => [0x03#8, (op5 0b00001#5 bit)]
  | .mov1CyXBit bit => [0x03#8, (op5 0b00000#5 bit)]
  | .mov1CyPswhBit bit => [0x02#8, (op5 0b00001#5 bit)]
  | .mov1CyPswlBit bit => [0x02#8, (op5 0b00000#5 bit)]
  | .mov1SaddrBitCy off bit => [0x08#8, (op5 0b00010#5 bit), off]
  | .mov1SfrBitCy off bit => [0x08#8, (op5 0b00011#5 bit), off]
  | .mov1ABitCy bit => [0x03#8, (op5 0b00011#5 bit)]
  | .mov1XBitCy bit => [0x03#8, (op5 0b00010#5 bit)]
  | .mov1PswhBitCy bit => [0x02#8, (op5 0b00011#5 bit)]
  | .mov1PswlBitCy bit => [0x02#8, (op5 0b00010#5 bit)]
  | .and1CySaddrBit off bit => [0x08#8, (op5 0b00100#5 bit), off]
  | .and1CyNotSaddrBit off bit => [0x08#8, (op5 0b00110#5 bit), off]
  | .and1CySfrBit off bit => [0x08#8, (op5 0b00101#5 bit), off]
  | .and1CyNotSfrBit off bit => [0x08#8, (op5 0b00111#5 bit), off]
  | .and1CyABit bit => [0x03#8, (op5 0b00101#5 bit)]
  | .and1CyNotABit bit => [0x03#8, (op5 0b00111#5 bit)]
  | .and1CyXBit bit => [0x03#8, (op5 0b00100#5 bit)]
  | .and1CyNotXBit bit => [0x03#8, (op5 0b00110#5 bit)]
  | .and1CyPswhBit bit => [0x02#8, (op5 0b00101#5 bit)]
  | .and1CyNotPswhBit bit => [0x02#8, (op5 0b00111#5 bit)]
  | .and1CyPswlBit bit => [0x02#8, (op5 0b00100#5 bit)]
  | .and1CyNotPswlBit bit => [0x02#8, (op5 0b00110#5 bit)]
  | .or1CySaddrBit off bit => [0x08#8, (op5 0b01000#5 bit), off]
  | .or1CyNotSaddrBit off bit => [0x08#8, (op5 0b01010#5 bit), off]
  | .or1CySfrBit off bit => [0x08#8, (op5 0b01001#5 bit), off]
  | .or1CyNotSfrBit off bit => [0x08#8, (op5 0b01011#5 bit), off]
  | .or1CyABit bit => [0x03#8, (op5 0b01001#5 bit)]
  | .or1CyNotABit bit => [0x03#8, (op5 0b01011#5 bit)]
  | .or1CyXBit bit => [0x03#8, (op5 0b01000#5 bit)]
  | .or1CyNotXBit bit => [0x03#8, (op5 0b01010#5 bit)]
  | .or1CyPswhBit bit => [0x02#8, (op5 0b01001#5 bit)]
  | .or1CyNotPswhBit bit => [0x02#8, (op5 0b01011#5 bit)]
  | .or1CyPswlBit bit => [0x02#8, (op5 0b01000#5 bit)]
  | .or1CyNotPswlBit bit => [0x02#8, (op5 0b01010#5 bit)]
  | .xor1CySaddrBit off bit => [0x08#8, (op5 0b01100#5 bit), off]
  | .xor1CySfrBit off bit => [0x08#8, (op5 0b01101#5 bit), off]
  | .xor1CyABit bit => [0x03#8, (op5 0b01101#5 bit)]
  | .xor1CyXBit bit => [0x03#8, (op5 0b01100#5 bit)]
  | .xor1CyPswhBit bit => [0x02#8, (op5 0b01101#5 bit)]
  | .xor1CyPswlBit bit => [0x02#8, (op5 0b01100#5 bit)]
  | .set1SaddrBit off bit => [(op5 0b10110#5 bit), off]
  | .set1SfrBit off bit => [0x08#8, (op5 0b10001#5 bit), off]
  | .set1ABit bit => [0x03#8, (op5 0b10001#5 bit)]
  | .set1XBit bit => [0x03#8, (op5 0b10000#5 bit)]
  | .set1PswhBit bit => [0x02#8, (op5 0b10001#5 bit)]
  | .set1PswlBit bit => [0x02#8, (op5 0b10000#5 bit)]
  | .set1Cy => [0x41#8]
  | .clr1SaddrBit off bit => [(op5 0b10100#5 bit), off]
  | .clr1SfrBit off bit => [0x08#8, (op5 0b10011#5 bit), off]
  | .clr1ABit bit => [0x03#8, (op5 0b10011#5 bit)]
  | .clr1XBit bit => [0x03#8, (op5 0b10010#5 bit)]
  | .clr1PswhBit bit => [0x02#8, (op5 0b10011#5 bit)]
  | .clr1PswlBit bit => [0x02#8, (op5 0b10010#5 bit)]
  | .clr1Cy => [0x40#8]
  | .not1SaddrBit off bit => [0x08#8, (op5 0b01110#5 bit), off]
  | .not1SfrBit off bit => [0x08#8, (op5 0b01111#5 bit), off]
  | .not1ABit bit => [0x03#8, (op5 0b01111#5 bit)]
  | .not1XBit bit => [0x03#8, (op5 0b01110#5 bit)]
  | .not1PswhBit bit => [0x02#8, (op5 0b01111#5 bit)]
  | .not1PswlBit bit => [0x02#8, (op5 0b01110#5 bit)]
  | .not1Cy => [0x42#8]
  | .callAddr16 w => [0x28#8, (Word.lo w), (Word.hi w)]
  | .callfAddr11 f11 => [(op5 0b10010#5 (f11.extractLsb' 8 3)), (f11.extractLsb' 0 8)]
  | .calltAddr5 t5 => [(0b111#3 ++ t5)]
  | .callRp1 rp1 => [0x05#8, (op5 0b01011#5 (qOfPair rp1))]
  | .callIndRp1 rp1 => [0x05#8, (op5 0b01111#5 (qOfPair rp1))]
  | .brk => [0x5E#8]
  | .ret => [0x56#8]
  | .reti => [0x57#8]
  | .pushPost post => [0x35#8, post]
  | .pushPsw => [0x49#8]
  | .pushuPost post => [0x37#8, post]
  | .popPost post => [0x34#8, post]
  | .popPsw => [0x48#8]
  | .popuPost post => [0x36#8, post]
  | .movwSpWord w => [0x0B#8, 0xFC#8, (Word.lo w), (Word.hi w)]
  | .movwSpAx => [0x13#8, 0xFC#8]
  | .movwAxSp => [0x11#8, 0xFC#8]
  | .incwSp => [0x05#8, 0xC8#8]
  | .decwSp => [0x05#8, 0xC9#8]
  | .brAddr16 w => [0x2C#8, (Word.lo w), (Word.hi w)]
  | .brRp1 rp1 => [0x05#8, (op5 0b01001#5 (qOfPair rp1))]
  | .brIndRp1 rp1 => [0x05#8, (op5 0b01101#5 (qOfPair rp1))]
  | .brRel jdisp => [0x14#8, jdisp]
  | .bcRel jdisp => [0x83#8, jdisp]
  | .bncRel jdisp => [0x82#8, jdisp]
  | .bzRel jdisp => [0x81#8, jdisp]
  | .bnzRel jdisp => [0x80#8, jdisp]
  | .bvRel jdisp => [0x85#8, jdisp]
  | .bnvRel jdisp => [0x84#8, jdisp]
  | .bnRel jdisp => [0x87#8, jdisp]
  | .bpRel jdisp => [0x86#8, jdisp]
  | .bgtRel jdisp => [0x07#8, 0xFB#8, jdisp]
  | .bgeRel jdisp => [0x07#8, 0xF9#8, jdisp]
  | .bltRel jdisp => [0x07#8, 0xF8#8, jdisp]
  | .bleRel jdisp => [0x07#8, 0xFA#8, jdisp]
  | .bhRel jdisp => [0x07#8, 0xFD#8, jdisp]
  | .bnhRel jdisp => [0x07#8, 0xFC#8, jdisp]
  | .btSaddrBitRel off bit jdisp => [(op5 0b01110#5 bit), off, jdisp]
  | .btSfrBitRel off bit jdisp => [0x08#8, (op5 0b10111#5 bit), off, jdisp]
  | .btABitRel bit jdisp => [0x03#8, (op5 0b10111#5 bit), jdisp]
  | .btXBitRel bit jdisp => [0x03#8, (op5 0b10110#5 bit), jdisp]
  | .btPswhBitRel bit jdisp => [0x02#8, (op5 0b10111#5 bit), jdisp]
  | .btPswlBitRel bit jdisp => [0x02#8, (op5 0b10110#5 bit), jdisp]
  | .bfSaddrBitRel off bit jdisp => [0x08#8, (op5 0b10100#5 bit), off, jdisp]
  | .bfSfrBitRel off bit jdisp => [0x08#8, (op5 0b10101#5 bit), off, jdisp]
  | .bfABitRel bit jdisp => [0x03#8, (op5 0b10101#5 bit), jdisp]
  | .bfXBitRel bit jdisp => [0x03#8, (op5 0b10100#5 bit), jdisp]
  | .bfPswhBitRel bit jdisp => [0x02#8, (op5 0b10101#5 bit), jdisp]
  | .bfPswlBitRel bit jdisp => [0x02#8, (op5 0b10100#5 bit), jdisp]
  | .btclrSaddrBitRel off bit jdisp => [0x08#8, (op5 0b11010#5 bit), off, jdisp]
  | .btclrSfrBitRel off bit jdisp => [0x08#8, (op5 0b11011#5 bit), off, jdisp]
  | .btclrABitRel bit jdisp => [0x03#8, (op5 0b11011#5 bit), jdisp]
  | .btclrXBitRel bit jdisp => [0x03#8, (op5 0b11010#5 bit), jdisp]
  | .btclrPswhBitRel bit jdisp => [0x02#8, (op5 0b11011#5 bit), jdisp]
  | .btclrPswlBitRel bit jdisp => [0x02#8, (op5 0b11010#5 bit), jdisp]
  | .bfsetSaddrBitRel off bit jdisp => [0x08#8, (op5 0b11000#5 bit), off, jdisp]
  | .bfsetSfrBitRel off bit jdisp => [0x08#8, (op5 0b11001#5 bit), off, jdisp]
  | .bfsetABitRel bit jdisp => [0x03#8, (op5 0b11001#5 bit), jdisp]
  | .bfsetXBitRel bit jdisp => [0x03#8, (op5 0b11000#5 bit), jdisp]
  | .bfsetPswhBitRel bit jdisp => [0x02#8, (op5 0b11001#5 bit), jdisp]
  | .bfsetPswlBitRel bit jdisp => [0x02#8, (op5 0b11000#5 bit), jdisp]
  | .dbnzR2Rel r2 jdisp => [(op5 0b00110#5 (0b01#2 ++ r2.code)), jdisp]
  | .dbnzSaddrRel off jdisp => [0x3B#8, off, jdisp]
  | .brkcsRbn n => [0x05#8, (op5 0b11011#5 n)]
  | .retcsAddr16 w => [0x29#8, (Word.lo w), (Word.hi w)]
  | .movmInc => [0x15#8, 0x00#8]
  | .movmDec => [0x15#8, 0x10#8]
  | .movbkInc => [0x15#8, 0x20#8]
  | .movbkDec => [0x15#8, 0x30#8]
  | .xchmInc => [0x15#8, 0x01#8]
  | .xchmDec => [0x15#8, 0x11#8]
  | .xchbkInc => [0x15#8, 0x21#8]
  | .xchbkDec => [0x15#8, 0x31#8]
  | .cmpmeInc => [0x15#8, 0x04#8]
  | .cmpmeDec => [0x15#8, 0x14#8]
  | .cmpbkeInc => [0x15#8, 0x24#8]
  | .cmpbkeDec => [0x15#8, 0x34#8]
  | .cmpmneInc => [0x15#8, 0x05#8]
  | .cmpmneDec => [0x15#8, 0x15#8]
  | .cmpbkneInc => [0x15#8, 0x25#8]
  | .cmpbkneDec => [0x15#8, 0x35#8]
  | .cmpmcInc => [0x15#8, 0x07#8]
  | .cmpmcDec => [0x15#8, 0x17#8]
  | .cmpbkcInc => [0x15#8, 0x27#8]
  | .cmpbkcDec => [0x15#8, 0x37#8]
  | .cmpmncInc => [0x15#8, 0x06#8]
  | .cmpmncDec => [0x15#8, 0x16#8]
  | .cmpbkncInc => [0x15#8, 0x26#8]
  | .cmpbkncDec => [0x15#8, 0x36#8]
  | .movStbcByte check byte => [0x09#8, 0x44#8, check, byte]
  | .movWdmByte check byte => [0x09#8, 0x42#8, check, byte]
  | .swrs => [0x43#8]
  | .selRbn n => [0x05#8, (op5 0b10101#5 n)]
  | .selRbnAlt n => [0x05#8, (op5 0b10111#5 n)]
  | .nop => [0x00#8]
  | .ei => [0x4B#8]
  | .di => [0x4A#8]

/-- How many bytes an instruction has (R120). -/
def Instr.length (i : Instr) : Nat := (encode i).length

/-- The `n` bytes of a number, the most significant first (R152). -/
def bytesHighFirst : Nat → Nat → List Byte
  | 0, _ => []
  | n + 1, w => BitVec.ofNat 8 (w >>> (8 * n)) :: bytesHighFirst n w

/-- The `n` bytes of a number, the least significant first. -/
def bytesLowFirst : Nat → Nat → List Byte
  | 0, _ => []
  | n + 1, w => BitVec.ofNat 8 w :: bytesLowFirst n (w >>> 8)

/-- Bytes that are exactly one instruction. -/
def isWhole (bs : List Byte) : Bool :=
  match decode bs with
  | .ok (_, []) => true
  | _ => false

/-- The bytes of a table word of `nbits` bits, then zeros up to five bytes: B1 is the most significant byte, as the
table and R152 number them; where that is no instruction of just those bytes and the other order is, that one.
DEDUCED, log 9. -/
def tableBytes (nbits w : Nat) : List Byte :=
  let n := nbits / 8
  let high := bytesHighFirst n w
  let low := bytesLowFirst n w
  (if !isWhole high && isWhole low then low else high) ++ List.replicate (5 - n) 0#8

/-- The instruction the decoder reads from a word of the opcode table. -/
def decodeTableWord (nbits w : Nat) : Option Instr :=
  match decode (tableBytes nbits w) with
  | .ok (i, _) => some i
  | .error _ => none

end

end Sys2Proof
end

