-- ==== Sys2Proof/Config.lean ====
section
/-!
DEFINITION. Config.lean: what a member, a board or the silicon fixes and the manual does not: the free values.
Each is an opaque constant with no body, so that a claim holds whatever it is.
The arguments index the draws: `n` is the counter State.draws, the other numbers name the place of the draw.
-/

namespace Sys2Proof

/-- What R640 leaves to the platform for one macroservice source: where in the on-chip RAM the record of its channel lies (R82),
byte by byte as offsets from FE00H, and how it moves data. DESIGN CHOICE, log 31. -/
structure MacroChannel where
  /-- The low byte of the 16-bit memory address of the record. -/
  addrLow : Byte
  /-- Its high byte. -/
  addrHigh : Byte
  /-- The special function register designator. -/
  sfr : Byte
  /-- The transfer counter. -/
  count : Byte
  /-- Word transfers (`ms_word`). -/
  word : Bool
  /-- From the special function register to memory (`ms_dir`). -/
  toMemory : Bool
  /-- The memory address is incremented (`ms_inc`). -/
  increment : Bool
  deriving DecidableEq, Repr, Inhabited

/-- What a byte written to an interrupt control register says of its source (R612). -/
structure ControlFields where
  /-- `req`. -/
  request : Bool
  /-- `mask`. -/
  masked : Bool
  /-- `mode` is macroservice. -/
  macroservice : Bool
  /-- `mode`, or at count 0 what follows the macroservice, is a context switch; else vectored. -/
  context : Bool
  /-- `level`, where this register holds the level of its group (R613). -/
  level : Option (BitVec 3)
  /-- `cs_bank`. -/
  bank : BitVec 3
  deriving DecidableEq, Repr, Inhabited

/-- An unspecified bit, `draw_1()` of R12. -/
opaque Config.freeBit (n place : Nat) : Bool

/-- An unspecified byte, `draw_8()` of R12. -/
opaque Config.freeByte (n place : Nat) : Byte

/-- An unspecified word, `draw_16()` of R12. -/
opaque Config.freeWord (n place : Nat) : Word

/-- What a device answers to a read of an address (R108, R660 to R668); `k` numbers the reads of one instruction. -/
opaque Config.deviceByte (n address k : Nat) : Byte

/-- What ISPR reads as once an interrupt has been accepted (R57). -/
opaque Config.isprByte (n : Nat) : Byte

/-- `ICR_DECODE`: the fields that a byte written to the interrupt control register of a source stands for (R612). The sources
are numbered by their default priority. -/
opaque Config.controlFields (source : Nat) (byte : Byte) : ControlFields

/-- The macroservice attributes of a source, if the platform gives them (R640). -/
opaque Config.macroservice (source : Nat) : Option MacroChannel

/-- Whether the mode of a source falls back from macroservice when the count of its channel reaches 0 (R642). -/
opaque Config.macroFallsBack (source : Nat) : Bool

/-- Whether a byte written to WDM runs the watchdog (R655). -/
opaque Config.wdtRuns (byte : Byte) : Bool

/-- Which of the bytes that an address has held while the prefetch queue may have read it is the one fetched (R112): a number
beyond them stands for the byte in memory. -/
opaque Config.prefetchPick (n address : Nat) : Nat

end Sys2Proof
end

