-- ==== Sys2Proof/Machine/State.lean ====
section
/-!
DEFINITION. Machine/State.lean: the state of the machine (R20, R40), why it can stop, and the machine after reset (R70).
-/

namespace Sys2Proof.Machine

/-- The contents of the address space (R80): address and byte, in one canonical form (`Memory.wf`); an address that is
not listed reads as `resetByte` says. The RAM with the register banks (R26), the ROM, the external memory and what
every special function register records are all here; SP and PSW (FFFCH to FFFFH) are fields of their own. -/
abbrev Memory := List Host.Cell

/-- The program status word (R31). -/
structure Psw where
  /-- RBS2 to RBS0, the active register bank. -/
  rbs : BitVec 3
  /-- Interrupt enable (R37). -/
  ie : Bool
  /-- Sign. -/
  s : Bool
  /-- Zero. -/
  z : Bool
  /-- Register set select (R24). -/
  rss : Bool
  /-- Auxiliary carry. -/
  ac : Bool
  /-- User flag. -/
  uf : Bool
  /-- Parity or arithmetic overflow. -/
  pv : Bool
  /-- Subtract. -/
  sub : Bool
  /-- Carry. -/
  cy : Bool
  deriving DecidableEq, Repr

/-- The run state (R650). -/
inductive RunState where
  | running | halted | stopped
  deriving DecidableEq, Repr

/-- One entry of the in-service stack (R610(d), R611(e), R623): a priority level, a nonmaskable source, or the marker of
BRK and BRKCS. -/
inductive Service where
  | level (k : BitVec 3)
  | nmi
  | wdt
  | software
  deriving DecidableEq, Repr

/-- The member of the family (R1, R9). -/
inductive Variant where
  | uPD78310A | uPD78312A | uPD78P312A
  deriving DecidableEq, Repr

/-- What the board puts behind a range of external addresses (R9 `EXT`). -/
inductive ExternalKind where
  /-- Memory that keeps what is written. -/
  | memory
  /-- Memory that a store does not change: ROM or EPROM. -/
  | readOnly
  /-- A device: a read is a free value, a write is recorded. -/
  | device
  deriving DecidableEq, Repr

/-- A range of external addresses. -/
structure Region where
  first : Nat
  last : Nat
  kind : ExternalKind
  deriving DecidableEq, Repr

/-- A range of external addresses that a value of MM enables while EA is high (R84). -/
structure MmRange where
  mm : Byte
  first : Nat
  last : Nat
  deriving DecidableEq, Repr

/-- The parameters that no step changes: the member, the level of EA and the external map (R9), and what MM enables (R84). -/
structure Board where
  variant : Variant
  eaLow : Bool
  regions : List Region
  enabled : List MmRange
  deriving DecidableEq, Repr

/-- The maskable sources in the order of their default priority (Table 2, R602, R614). -/
inductive Source where
  | crf00 | crf01 | crf10 | crf11 | exif0 | exif1 | exif2 | tmf0 | tmf1 | tmf2 | sef | srf | stf | adf | tbf
  deriving DecidableEq, Repr

/-- The five groups of sources that share a level (R613). -/
inductive Group where
  | counters | external | timers | serial | others
  deriving DecidableEq, Repr

/-- What the interrupt control register of a source holds (R612), but for its level. -/
structure SourceState where
  /-- `req`. -/
  request : Bool
  /-- `mask`. -/
  masked : Bool
  /-- `mode` is macroservice. -/
  macroservice : Bool
  /-- `mode`, or at count 0 what follows the macroservice, is a context switch; else vectored. -/
  context : Bool
  /-- `cs_bank`. -/
  bank : BitVec 3
  /-- The count of the channel has reached 0 and the request is one for the CPU (R640). -/
  ended : Bool
  /-- The hardware has changed a field since the register was written: what it reads as is not known (log 27). -/
  changed : Bool
  deriving DecidableEq, Repr

/-- The fields of every maskable source. -/
structure Sources where
  crf00 : SourceState
  crf01 : SourceState
  crf10 : SourceState
  crf11 : SourceState
  exif0 : SourceState
  exif1 : SourceState
  exif2 : SourceState
  tmf0 : SourceState
  tmf1 : SourceState
  tmf2 : SourceState
  sef : SourceState
  srf : SourceState
  stf : SourceState
  adf : SourceState
  tbf : SourceState
  deriving DecidableEq, Repr

/-- `level` of every source, by its group (R612, R613). -/
structure Levels where
  counters : BitVec 3
  external : BitVec 3
  timers : BitVec 3
  serial : BitVec 3
  others : BitVec 3
  deriving DecidableEq, Repr

/-- The state. DESIGN CHOICE, log 49: `draws`, `prefetch`, `fetched`, `accepted`, `wdtCount`, `board` and the places
`ended` and `changed` of `sources` are the model's own. -/
structure State where
  /-- Every byte of the address space but SP and PSW. -/
  mem : Memory
  /-- The program counter (R28). -/
  pc : Addr
  /-- The stack pointer (R30). -/
  sp : Addr
  /-- The program status word (R31). -/
  psw : Psw
  /-- The end of software interrupt flag (R39). -/
  eos : Bool
  /-- RUN, HALT or STOP (R650). -/
  run : RunState
  /-- An NMI request is pending (R611). -/
  nmiPending : Bool
  /-- A watchdog request is pending (R655). -/
  wdtPending : Bool
  /-- The fields of the maskable sources (R612). -/
  sources : Sources
  /-- The levels of their groups (R613). -/
  levels : Levels
  /-- The in-service stack, the innermost first (R610, R623). -/
  service : List Service
  /-- Some interrupt has been accepted since reset (R57). -/
  accepted : Bool
  /-- The watchdog is running (R655). -/
  wdtRunning : Bool
  /-- The watchdog's count (R40(f)); only the environment advances it. -/
  wdtCount : Nat
  /-- The bytes the prefetch queue may hold although memory has changed (R40(a), R112), the oldest of an address first; a step adds
  every byte it overwrites and keeps those that the queue can hold. -/
  prefetch : List Host.Cell
  /-- How many bytes of the instruction at pc the queue holds already: its length between two iterations of a string instruction
  (R112, R492), else 0. -/
  fetched : Nat
  /-- The number of steps so far: the index of the free values. -/
  draws : Nat
  /-- The parameters of R9. -/
  board : Board
  deriving DecidableEq, Repr

/-- Why the machine stops at an access the manual gives no effect (D23, log 35, log 42). Every one is safe: nothing is
proved about what follows. The number is the address. -/
inductive Fault where
  /-- An access to an address that is neither ROM, RAM, SFR nor external (R84); raised by a byte access or a fetch. Safe. -/
  | unmapped (a : Nat)
  /-- An access to an address of FF00H to FFFBH that Table 1 does not list (R55); raised by a byte access. Safe. -/
  | sfrHole (a : Nat)
  /-- An access to an external address that MM does not enable while EA is high (R84, U14); raised by a byte access or a fetch.
  Safe. -/
  | notEnabled (a : Nat)
  /-- A store into on-chip ROM (R83); raised by a byte write. Safe. -/
  | romStore (a : Nat)
  /-- A write to ISPR, RXB or ADCR (R53); raised by a byte write. Safe. -/
  | readOnlySfr (a : Nat)
  /-- A read of TXB (R53); raised by a byte read. Safe. -/
  | writeOnlySfr (a : Nat)
  /-- A fetch from FF00H to FFFFH (R112, R29); raised by the fetch. Safe. -/
  | fetchSfr (a : Nat)
  deriving DecidableEq, Repr

/-- Why the machine refuses a step. Every one is safe: nothing is proved about what follows. -/
inductive Refusal where
  /-- An instruction whose meaning is not written; raised by Dispatch. Safe. -/
  | notModelled (mnemonic : String)
  /-- Bytes that are no instruction (R150); raised by the step after the decoder. Safe. -/
  | unassigned
  /-- A `saddrp` or `sfrp` offset that is odd (R92); raised by a word operand. Safe. -/
  | oddWordOffset (off : Byte)
  /-- A word operand that names no register with a 16-bit transfer (R52); raised by a word operand. Safe. -/
  | notWordSfr (off : Byte)
  /-- An `sfr` or `sfrp` operand that names SP or PSW in a form the listing does not show (R34); raised by the operand.
  Safe. -/
  | spPswOperand (off : Byte)
  /-- A macroservice request of a source to which the platform gives no channel (R640, U24); raised by its acceptance.
  Safe. -/
  | macroservice (source : Nat)
  /-- A store into the bytes that the prefetch queue may hold (R112, D18, U15); raised by `admittedStep` of Safety.lean, which has the
  refusal of R112, and never by `step`, which runs on (log 41). Safe. -/
  | storeIntoQueue
  deriving DecidableEq, Repr

/-- What 47H in an interrupt control register stands for (R612). The bank is a DESIGN CHOICE, log 6. -/
def SourceState.reset : SourceState where
  request := false
  masked := true
  macroservice := false
  context := false
  bank := 0#3
  ended := false
  changed := false

/-- The machine right after reset (R70). What R70 leaves open holds the values of log 1 to log 8; the reset word at
0000H reads as 0000H from memory in which nothing is placed. -/
def State.reset : State where
  mem := []
  pc := 0x0000#16
  sp := 0x0000#16
  psw := { rbs := 0#3, ie := false, s := false, z := false, rss := false, ac := false, uf := false, pv := false,
           sub := false, cy := false }
  eos := false
  run := .running
  nmiPending := false
  wdtPending := false
  sources := ⟨.reset, .reset, .reset, .reset, .reset, .reset, .reset, .reset, .reset, .reset, .reset, .reset, .reset, .reset, .reset⟩
  levels := ⟨7#3, 7#3, 7#3, 7#3, 7#3⟩
  service := []
  accepted := false
  wdtRunning := false
  wdtCount := 0
  prefetch := []
  fetched := 0
  draws := 0
  board := { variant := .uPD78310A, eaLow := true, regions := [{ first := 0x0000, last := 0xFDFF, kind := .memory }], enabled := [] }

end Sys2Proof.Machine
end

