-- ==== Sys2Proof/Machine/Sfr.lean ====
section
/-!
DEFINITION. Machine/Sfr.lean: the special function registers (Table 1, R50 to R55) and the fields of the interrupt control
registers (R602, R612, R613).
-/

namespace Sys2Proof.Machine

/-- How a special function register answers (R50, R53, R54, R57, R108). -/
inductive SfrKind where
  /-- Reads what was last written. -/
  | recorded
  /-- A device datum: a read is a free value, a write is recorded. -/
  | device
  /-- As `device`, and not to be written (RXB, ADCR). -/
  | deviceReadOnly
  /-- P2 and P3: as `device`, and bits 0 to 3 are read-only. -/
  | portLow
  /-- PM2 and PM3: as `recorded`, and bits 0 to 3 are read-only. -/
  | lowReadOnly
  /-- STBC and WDM: as `recorded`, and ordinary writes change nothing. -/
  | guarded
  /-- An interrupt control register: reads what was last written until the hardware changes a field of its source (R56, R612). -/
  | control (q : Source)
  /-- ISPR. -/
  | inService
  /-- TXB. -/
  | writeOnly
  deriving DecidableEq, Repr

/-- A row of Table 1: the low byte of the address, the mnemonic, how it answers, whether a 16-bit transfer may name it,
and what it records after reset (Undefined: 00H, log 4; STBC: log 5). -/
structure SfrRow where
  off : Nat
  name : String
  kind : SfrKind
  word : Bool
  reset : Byte
  deriving DecidableEq, Repr

/-- The registers FF00H to FF1FH, which `saddr` reaches too (R93). -/
def sfrShort : List SfrRow := [
  ⟨0x00, "P0", .device, false, 0x00#8⟩,
  ⟨0x01, "P1", .device, false, 0x00#8⟩,
  ⟨0x02, "P2", .portLow, false, 0x00#8⟩,
  ⟨0x03, "P3", .portLow, false, 0x00#8⟩,
  ⟨0x04, "P4", .device, false, 0x00#8⟩,
  ⟨0x05, "P5", .device, false, 0x00#8⟩,
  ⟨0x08, "CR00L", .device, true, 0x00#8⟩,
  ⟨0x09, "CR00H", .device, false, 0x00#8⟩,
  ⟨0x0A, "CR01L", .device, true, 0x00#8⟩,
  ⟨0x0B, "CR01H", .device, false, 0x00#8⟩,
  ⟨0x0C, "CR10L", .device, true, 0x00#8⟩,
  ⟨0x0D, "CR10H", .device, false, 0x00#8⟩,
  ⟨0x0E, "CR11L", .device, true, 0x00#8⟩,
  ⟨0x0F, "CR11H", .device, false, 0x00#8⟩,
  ⟨0x10, "CPT0L", .device, true, 0x00#8⟩,
  ⟨0x11, "CPT0H", .device, false, 0x00#8⟩,
  ⟨0x12, "CPT1L", .device, true, 0x00#8⟩,
  ⟨0x13, "CPT1H", .device, false, 0x00#8⟩,
  ⟨0x14, "PWM0L", .device, true, 0x00#8⟩,
  ⟨0x15, "PWM0H", .device, false, 0x00#8⟩,
  ⟨0x16, "PWM1L", .device, true, 0x00#8⟩,
  ⟨0x17, "PWM1H", .device, false, 0x00#8⟩,
  ⟨0x1C, "UDC0L", .device, true, 0x00#8⟩,
  ⟨0x1D, "UDC0H", .device, false, 0x00#8⟩,
  ⟨0x1E, "UDC1L", .device, true, 0x00#8⟩,
  ⟨0x1F, "UDC1H", .device, false, 0x00#8⟩]

/-- The registers FF20H to FF3FH. -/
def sfrPorts : List SfrRow := [
  ⟨0x20, "PM0", .recorded, false, 0xFF#8⟩,
  ⟨0x21, "PM1", .recorded, false, 0xFF#8⟩,
  ⟨0x22, "PM2", .lowReadOnly, false, 0xFF#8⟩,
  ⟨0x23, "PM3", .lowReadOnly, false, 0xFF#8⟩,
  ⟨0x25, "PM5", .recorded, false, 0xFF#8⟩,
  ⟨0x32, "PMC2", .recorded, false, 0x0F#8⟩,
  ⟨0x33, "PMC3", .recorded, false, 0x0F#8⟩,
  ⟨0x38, "RTPC", .recorded, false, 0x08#8⟩,
  ⟨0x3A, "P0L", .device, false, 0x00#8⟩,
  ⟨0x3B, "P0H", .device, false, 0x00#8⟩]

/-- The registers FF40H to FF6FH. -/
def sfrControl : List SfrRow := [
  ⟨0x40, "MM", .recorded, false, 0x30#8⟩,
  ⟨0x41, "RFM", .recorded, false, 0x10#8⟩,
  ⟨0x42, "WDM", .guarded, false, 0x00#8⟩,
  ⟨0x44, "STBC", .guarded, false, 0x20#8⟩,
  ⟨0x46, "TBM", .recorded, false, 0x00#8⟩,
  ⟨0x48, "INTM", .recorded, false, 0x00#8⟩,
  ⟨0x4A, "ISPR", .inService, false, 0x00#8⟩,
  ⟨0x4E, "CCW", .recorded, false, 0x00#8⟩,
  ⟨0x50, "SCM", .recorded, false, 0x00#8⟩,
  ⟨0x52, "SCC", .recorded, false, 0x00#8⟩,
  ⟨0x53, "BRG", .recorded, false, 0x00#8⟩,
  ⟨0x56, "RXB", .deviceReadOnly, false, 0x00#8⟩,
  ⟨0x57, "TXB", .writeOnly, false, 0x00#8⟩,
  ⟨0x60, "FRCC", .recorded, false, 0x00#8⟩,
  ⟨0x64, "CPTM", .recorded, false, 0x00#8⟩,
  ⟨0x66, "PWMM", .recorded, false, 0x00#8⟩,
  ⟨0x68, "ADM", .recorded, false, 0x00#8⟩,
  ⟨0x6A, "ADCR", .deviceReadOnly, false, 0x00#8⟩]

/-- The registers FF70H to FF8FH. -/
def sfrTimers : List SfrRow := [
  ⟨0x70, "CUIM", .recorded, false, 0x00#8⟩,
  ⟨0x72, "UDCC0", .recorded, false, 0x00#8⟩,
  ⟨0x74, "CRC", .recorded, false, 0x00#8⟩,
  ⟨0x7A, "UDCC1", .recorded, false, 0x00#8⟩,
  ⟨0x80, "TMC0", .recorded, false, 0x00#8⟩,
  ⟨0x82, "TMC1", .recorded, false, 0x00#8⟩,
  ⟨0x88, "TM0L", .device, true, 0x00#8⟩,
  ⟨0x89, "TM0H", .device, false, 0x00#8⟩,
  ⟨0x8A, "MD0L", .device, true, 0x00#8⟩,
  ⟨0x8B, "MD0H", .device, false, 0x00#8⟩,
  ⟨0x8C, "TM1L", .device, true, 0x00#8⟩,
  ⟨0x8D, "TM1H", .device, false, 0x00#8⟩,
  ⟨0x8E, "MD1L", .device, true, 0x00#8⟩,
  ⟨0x8F, "MD1H", .device, false, 0x00#8⟩]

/-- The interrupt and macroservice control registers FFC0H to FFE2H (R56, R58). -/
def sfrInterrupt : List SfrRow := [
  ⟨0xC0, "CRIC00", .control .crf00, false, 0x47#8⟩,
  ⟨0xC1, "CRMS00", .recorded, false, 0x00#8⟩,
  ⟨0xC2, "CRIC01", .control .crf01, false, 0x47#8⟩,
  ⟨0xC4, "CRIC10", .control .crf10, false, 0x47#8⟩,
  ⟨0xC5, "CRMS10", .recorded, false, 0x00#8⟩,
  ⟨0xC6, "CRIC11", .control .crf11, false, 0x47#8⟩,
  ⟨0xC8, "EXIC0", .control .exif0, false, 0x47#8⟩,
  ⟨0xC9, "EXMS0", .recorded, false, 0x00#8⟩,
  ⟨0xCA, "EXIC1", .control .exif1, false, 0x47#8⟩,
  ⟨0xCB, "EXMS1", .recorded, false, 0x00#8⟩,
  ⟨0xCC, "EXIC2", .control .exif2, false, 0x47#8⟩,
  ⟨0xCD, "EXMS2", .recorded, false, 0x00#8⟩,
  ⟨0xCE, "TMIC0", .control .tmf0, false, 0x47#8⟩,
  ⟨0xCF, "TMMS0", .recorded, false, 0x00#8⟩,
  ⟨0xD0, "TMIC1", .control .tmf1, false, 0x47#8⟩,
  ⟨0xD1, "TMMS1", .recorded, false, 0x00#8⟩,
  ⟨0xD2, "TMIC2", .control .tmf2, false, 0x47#8⟩,
  ⟨0xD3, "TMMS2", .recorded, false, 0x00#8⟩,
  ⟨0xDA, "SEIC", .control .sef, false, 0x47#8⟩,
  ⟨0xDC, "SRIC", .control .srf, false, 0x47#8⟩,
  ⟨0xDD, "SRMS", .recorded, false, 0x00#8⟩,
  ⟨0xDE, "STIC", .control .stf, false, 0x47#8⟩,
  ⟨0xDF, "STMS", .recorded, false, 0x00#8⟩,
  ⟨0xE0, "ADIC", .control .adf, false, 0x47#8⟩,
  ⟨0xE1, "ADMS", .recorded, false, 0x00#8⟩,
  ⟨0xE2, "TBIC", .control .tbf, false, 0x47#8⟩]

/-- Table 1 (R50), but for the external area and SP and PSW. -/
def sfrTable : List SfrRow := sfrShort ++ sfrPorts ++ sfrControl ++ sfrTimers ++ sfrInterrupt

/-- The row at an offset from FF00H. -/
def sfrRow (off : Nat) : Option SfrRow :=
  (if off < 0x20 then sfrShort
   else if off < 0x40 then sfrPorts
   else if off < 0x70 then sfrControl
   else if off < 0xC0 then sfrTimers
   else sfrInterrupt).find? fun row => row.off == off

/-- How the register at an offset from FF00H answers; `none` is a hole (R55). FFB0H to FFBFH is the external area
(note 4 of Table 1), a window of devices; DESIGN CHOICE, log 47: one that is there whatever MM, the level of EA and the external map
are. -/
def sfrKind (off : Nat) : Option SfrKind :=
  if 0xB0 ≤ off ∧ off ≤ 0xBF then some .device else (sfrRow off).map (·.kind)

/-- A 16-bit transfer may name this offset (R52). -/
def isWordSfr (off : Nat) : Bool :=
  match sfrRow off with
  | some row => row.word
  | none => false

/-- What a register records after reset. -/
def sfrReset (off : Nat) : Byte :=
  match sfrRow off with
  | some row => row.reset
  | none => 0#8

/-- The address of MM (R50). -/
def mmAddr : Nat := 0xFF40

/-- The address of STBC (R50). -/
def stbcAddr : Nat := 0xFF44

/-- The address of WDM (R50). -/
def wdmAddr : Nat := 0xFF42

/-- The address of CCW (R50). -/
def ccwAddr : Nat := 0xFF4E

/-! ## The maskable sources (R602, R612, R613) -/

/-- Every source, default priority 0 first. -/
def Source.all : List Source :=
  [.crf00, .crf01, .crf10, .crf11, .exif0, .exif1, .exif2, .tmf0, .tmf1, .tmf2, .sef, .srf, .stf, .adf, .tbf]

/-- The default priority of a source (R602). -/
def Source.priority : Source → Nat
  | .crf00 => 0 | .crf01 => 1 | .crf10 => 2 | .crf11 => 3 | .exif0 => 4 | .exif1 => 5 | .exif2 => 6 | .tmf0 => 7
  | .tmf1 => 8 | .tmf2 => 9 | .sef => 10 | .srf => 11 | .stf => 12 | .adf => 13 | .tbf => 14

/-- The address of the interrupt control register of a source (R50, R602). -/
def Source.control : Source → Nat
  | .crf00 => 0xFFC0 | .crf01 => 0xFFC2 | .crf10 => 0xFFC4 | .crf11 => 0xFFC6 | .exif0 => 0xFFC8 | .exif1 => 0xFFCA
  | .exif2 => 0xFFCC | .tmf0 => 0xFFCE | .tmf1 => 0xFFD0 | .tmf2 => 0xFFD2 | .sef => 0xFFDA | .srf => 0xFFDC
  | .stf => 0xFFDE | .adf => 0xFFE0 | .tbf => 0xFFE2

/-- The sources Table 2 marks "Macroservice: Yes" (R602). -/
def Source.canMacro : Source → Bool
  | .crf01 | .crf11 | .sef | .tbf => false
  | _ => true

/-- The group of a source (R613, the default of `GROUP_OF`). DEDUCED, log 27. -/
def Source.group : Source → Group
  | .crf00 | .crf01 | .crf10 | .crf11 => .counters
  | .exif0 | .exif1 | .exif2 => .external
  | .tmf0 | .tmf1 | .tmf2 => .timers
  | .sef | .srf | .stf => .serial
  | .adf | .tbf => .others

/-- The fields of a source. -/
def Sources.get (t : Sources) : Source → SourceState
  | .crf00 => t.crf00 | .crf01 => t.crf01 | .crf10 => t.crf10 | .crf11 => t.crf11 | .exif0 => t.exif0
  | .exif1 => t.exif1 | .exif2 => t.exif2 | .tmf0 => t.tmf0 | .tmf1 => t.tmf1 | .tmf2 => t.tmf2
  | .sef => t.sef | .srf => t.srf | .stf => t.stf | .adf => t.adf | .tbf => t.tbf

/-- The fields of one source replaced. -/
def Sources.set (t : Sources) (q : Source) (c : SourceState) : Sources :=
  match q with
  | .crf00 => { t with crf00 := c } | .crf01 => { t with crf01 := c } | .crf10 => { t with crf10 := c }
  | .crf11 => { t with crf11 := c } | .exif0 => { t with exif0 := c } | .exif1 => { t with exif1 := c }
  | .exif2 => { t with exif2 := c } | .tmf0 => { t with tmf0 := c } | .tmf1 => { t with tmf1 := c }
  | .tmf2 => { t with tmf2 := c } | .sef => { t with sef := c } | .srf => { t with srf := c }
  | .stf => { t with stf := c } | .adf => { t with adf := c } | .tbf => { t with tbf := c }

/-- The level of a group. -/
def Levels.get (t : Levels) : Group → BitVec 3
  | .counters => t.counters | .external => t.external | .timers => t.timers | .serial => t.serial | .others => t.others

/-- The level of one group replaced. -/
def Levels.set (t : Levels) (g : Group) (k : BitVec 3) : Levels :=
  match g with
  | .counters => { t with counters := k } | .external => { t with external := k } | .timers => { t with timers := k }
  | .serial => { t with serial := k } | .others => { t with others := k }

/-- What a byte written to the control register of a source says (R612): `ICR_DECODE`, but 47H is always no request, masked,
vectored, level 7. DESIGN CHOICE, log 27. -/
def Source.fields (q : Source) (v : Byte) : ControlFields :=
  let f := Config.controlFields q.priority v
  if v = 0x47#8 then
    { f with request := false, masked := true, macroservice := false, context := false, level := f.level.map fun _ => 7#3 }
  else f

/-- The fields of a source after a byte is written to its control register (R612). -/
def Source.programmed (q : Source) (v : Byte) : SourceState where
  request := (q.fields v).request
  masked := (q.fields v).masked
  macroservice := (q.fields v).macroservice && q.canMacro
  context := (q.fields v).context
  bank := (q.fields v).bank
  ended := false
  changed := false

/-- The levels after a byte is written to the control register of a source: that of its group, if this register holds it (R612,
R613). -/
def Source.programLevel (q : Source) (v : Byte) (t : Levels) : Levels :=
  match (q.fields v).level with
  | some k => t.set q.group k
  | none => t

end Sys2Proof.Machine
end

