-- ==== Sys2Proof/Machine/Ops.lean ====
section
/-!
DEFINITION. Machine/Ops.lean: the named operations over memory, registers, PSW and stack, and the entry of an exception and
the return from one.
-/

namespace Sys2Proof.Machine

/-! ## Outcomes -/

/-- Why an operation stops. -/
inductive Stop where
  | fault (f : Fault)
  | refusal (r : Refusal)
  deriving DecidableEq, Repr

/-- The outcome of an instruction from the result of its operations. -/
def finish (r : Except Stop State) : Host.Outcome State Fault Refusal :=
  match r with
  | .ok s => .next s
  | .error (.fault f) => .fault f
  | .error (.refusal f) => .refused f

/-! ## Memory -/

/-- What an address reads as that memory does not list: the recorded reset value of an SFR (Table 1), else 00H. DESIGN
CHOICE, log 1, log 4, log 7. -/
def resetByte (a : Nat) : Byte := if 0xFF00 ≤ a then sfrReset (a - 0xFF00) else 0#8

/-- The byte at an address. -/
def Memory.get : Memory → Nat → Byte
  | [], a => resetByte a
  | (x, v) :: m, a => if x = a then v else Memory.get m a

/-- Memory with one byte replaced, in canonical form. -/
def Memory.set : Memory → Nat → Byte → Memory
  | [], a, v => if v = resetByte a then [] else [(a, v)]
  | (x, w) :: m, a, v =>
    if a < x then (if v = resetByte a then (x, w) :: m else (a, v) :: (x, w) :: m)
    else if x = a then (if v = resetByte a then m else (a, v) :: m)
    else (x, w) :: Memory.set m a v

/-- Every address is at least `lo` and below FFFCH, they strictly rise, and no entry is what its address reads as unlisted. -/
def Memory.wfFrom : Nat → Memory → Bool
  | _, [] => true
  | lo, (x, v) :: m => decide (lo ≤ x) && decide (x < 0xFFFC) && decide (v ≠ resetByte x) && Memory.wfFrom (x + 1) m

/-- The canonical form of memory. -/
def Memory.wf (m : Memory) : Bool := Memory.wfFrom 0 m

/-- The byte the state holds at an address. -/
def State.byte (s : State) (a : Nat) : Byte := s.mem.get a

/-- The bytes that the prefetch queue may hold once an address takes a byte: the one it held, if it changes, joins them (R112, log
41). -/
def State.overwritten (s : State) (a : Nat) (v : Byte) : List Host.Cell :=
  if s.byte a = v || s.prefetch.contains (a, s.byte a) then s.prefetch else s.prefetch ++ [(a, s.byte a)]

/-- The state with one byte of memory replaced. -/
def State.setByte (s : State) (a : Nat) (v : Byte) : State :=
  { s with mem := s.mem.set a v, prefetch := s.overwritten a v }

/-! ## PSW as bytes (R32, R33) -/

/-- PSWL: S Z RSS AC UF P/V SUB CY from bit 7 to bit 0 (R32). PRESUMED, log 12. -/
def Psw.low (p : Psw) : Byte :=
  BitVec.ofBool p.s ++ BitVec.ofBool p.z ++ BitVec.ofBool p.rss ++ BitVec.ofBool p.ac ++ BitVec.ofBool p.uf ++
    BitVec.ofBool p.pv ++ BitVec.ofBool p.sub ++ BitVec.ofBool p.cy

/-- PSWH: 0 RBS2 RBS1 RBS0 0 0 0 IE from bit 7 to bit 0 (R33, the default of `PSWH_LAYOUT`). PRESUMED, log 12. -/
def Psw.high (p : Psw) : Byte := 0#1 ++ p.rbs ++ 0#3 ++ BitVec.ofBool p.ie

/-- The PSW after a byte is written to PSWL. -/
def Psw.withLow (p : Psw) (v : Byte) : Psw :=
  { p with s := v.getLsbD 7, z := v.getLsbD 6, rss := v.getLsbD 5, ac := v.getLsbD 4, uf := v.getLsbD 3,
           pv := v.getLsbD 2, sub := v.getLsbD 1, cy := v.getLsbD 0 }

/-- The PSW after a byte is written to PSWH; the bits that hold no field are ignored (D3). -/
def Psw.withHigh (p : Psw) (v : Byte) : Psw := { p with rbs := v.extractLsb' 4 3, ie := v.getLsbD 0 }

/-- The state with another PSW. -/
def State.withPsw (s : State) (p : Psw) : State := { s with psw := p }

/-- The state with another stack pointer. -/
def State.withSp (s : State) (a : Addr) : State := { s with sp := a }

/-- The state with another program counter. -/
def State.withPc (s : State) (a : Addr) : State := { s with pc := a }

/-- The state at the instruction `n` bytes on: `pc <- pc + n` mod 10000H (R28, R29). -/
def State.advance (s : State) (n : Nat) : State := s.withPc (s.pc + BitVec.ofNat 16 n)

/-! ## Accesses (R83 to R85, R108) -/

/-- What stands at an address. -/
inductive Place where
  | sfr | ram | rom | external (kind : ExternalKind) | notEnabled | unmapped
  deriving DecidableEq, Repr

/-- The on-chip ROM is there and EA selects it (R83, R9: EA is low on the uPD78310A, high on the uPD78P312A). -/
def Board.romOn (b : Board) : Bool :=
  match b.variant with
  | .uPD78310A => false
  | .uPD78312A => !b.eaLow
  | .uPD78P312A => true

/-- The external bus reaches an address: with EA low ports 4 and 5 are always the bus; with EA high a range that the value of MM
enables (R84). DEDUCED, log 47. -/
def Board.busOn (b : Board) (mm : Byte) (a : Nat) : Bool :=
  !b.romOn || b.enabled.any fun r => r.mm == mm && decide (r.first ≤ a) && decide (a ≤ r.last)

/-- What stands at an address, by the board and the value of MM (R81 to R84). -/
def place (b : Board) (mm : Byte) (a : Nat) : Place :=
  if 0xFF00 ≤ a then .sfr
  else if 0xFE00 ≤ a then .ram
  else if b.romOn && decide (a < 0x2000) then .rom
  else
    match b.regions.find? fun r => decide (r.first ≤ a) && decide (a ≤ r.last) with
    | some r => if b.busOn mm a then .external r.kind else .notEnabled
    | none => .unmapped

/-- What stands at an address. -/
def State.place (s : State) (a : Nat) : Place := Machine.place s.board (s.byte mmAddr) a

/-- A byte read in the SFR area; `k` numbers the reads of one instruction (R53, R55, R57, R108, log 27, log 33, log 34, log 37). -/
def readSfr (k : Nat) (a : Nat) (s : State) : Except Stop Byte :=
  if a = 0xFFFC then .ok (Word.lo s.sp)
  else if a = 0xFFFD then .ok (Word.hi s.sp)
  else if a = 0xFFFE then .ok s.psw.low
  else if a = 0xFFFF then .ok s.psw.high
  else
    match sfrKind (a - 0xFF00) with
    | none => .error (.fault (.sfrHole a))
    | some .writeOnly => .error (.fault (.writeOnlySfr a))
    | some .inService => .ok (if s.accepted then Config.isprByte s.draws else s.byte a)
    | some .recorded | some .lowReadOnly | some .guarded => .ok (s.byte a)
    | some (.control q) => .ok (if (s.sources.get q).changed then Config.deviceByte s.draws a k else s.byte a)
    | some .device | some .deviceReadOnly | some .portLow => .ok (Config.deviceByte s.draws a k)

/-- `MemRead(a, 1)` (R85). -/
def readByte (k : Nat) (a : Addr) (s : State) : Except Stop Byte :=
  match s.place a.toNat with
  | .sfr => readSfr k a.toNat s
  | .ram | .rom | .external .memory | .external .readOnly => .ok (s.byte a.toNat)
  | .external .device => .ok (Config.deviceByte s.draws a.toNat k)
  | .notEnabled => .error (.fault (.notEnabled a.toNat))
  | .unmapped => .error (.fault (.unmapped a.toNat))

/-- What a register of a kind records when a byte is written over an old one (R53, R54, log 36). -/
def cellAfter (kind : SfrKind) (old v : Byte) : Byte :=
  match kind with
  | .portLow | .lowReadOnly => v &&& 0xF0#8 ||| old &&& 0x0F#8
  | .guarded => old
  | _ => v

/-- The fields of a source after a byte is written to its control register (R612). -/
def State.program (s : State) (q : Source) (v : Byte) : State :=
  { s with sources := s.sources.set q (q.programmed v), levels := q.programLevel v s.levels }

/-- A byte written in the SFR area (R53, R54, R55, log 37). -/
def writeSfr (a : Nat) (v : Byte) (s : State) : Except Stop State :=
  if a = 0xFFFC then .ok (s.withSp (Word.ofBytes v (Word.hi s.sp)))
  else if a = 0xFFFD then .ok (s.withSp (Word.ofBytes (Word.lo s.sp) v))
  else if a = 0xFFFE then .ok (s.withPsw (s.psw.withLow v))
  else if a = 0xFFFF then .ok (s.withPsw (s.psw.withHigh v))
  else
    match sfrKind (a - 0xFF00) with
    | none => .error (.fault (.sfrHole a))
    | some .deviceReadOnly | some .inService => .error (.fault (.readOnlySfr a))
    | some (.control q) => .ok ((s.setByte a v).program q v)
    | some kind => .ok (s.setByte a (cellAfter kind (s.byte a) v))

/-- `MemWrite(a, 1, v)` (R85); external memory that is read-only ignores it (R9). -/
def writeByte (a : Addr) (v : Byte) (s : State) : Except Stop State :=
  match s.place a.toNat with
  | .sfr => writeSfr a.toNat v s
  | .ram | .external .memory | .external .device => .ok (s.setByte a.toNat v)
  | .external .readOnly => .ok s
  | .rom => .error (.fault (.romStore a.toNat))
  | .notEnabled => .error (.fault (.notEnabled a.toNat))
  | .unmapped => .error (.fault (.unmapped a.toNat))

/-- `MemRead(a, 2)`: two byte accesses, the second address mod 10000H (R85, log 39). -/
def readWord (k : Nat) (a : Addr) (s : State) : Except Stop Word := do
  let lo ← readByte k a s
  let hi ← readByte k (a + 1#16) s
  .ok (Word.ofBytes lo hi)

/-- `MemWrite(a, 2, w)`: two byte accesses, the second address mod 10000H (R85, log 39). -/
def writeWord (a : Addr) (w : Word) (s : State) : Except Stop State := do
  let s ← writeByte a (Word.lo w) s
  writeByte (a + 1#16) (Word.hi w) s

/-! ## General registers (R21 to R26) -/

/-- The address of the first register of a bank (R26, `RB_BASE`). PRESUMED, log 10. -/
def bankBase (bank : BitVec 3) : Nat := 0xFEF0 - 0x10 * bank.toNat

/-- The RAM address of a register of a bank (R26). -/
def regAddr (bank : BitVec 3) (i : RegNo) : Nat := bankBase bank + i.toNat

/-- A register of the bank that a PSW selects. Operands are resolved with the PSW at the start of the instruction (R722,
log 40), so the PSW is an argument. -/
def readReg (p : Psw) (i : RegNo) (s : State) : Byte := s.byte (regAddr p.rbs i)

/-- Writing a register of the bank that a PSW selects. -/
def writeReg (p : Psw) (i : RegNo) (v : Byte) (s : State) : State := s.setByte (regAddr p.rbs i) v

/-- `RP[k] = R[2k+1] : R[2k]` (R22). -/
def readPair (p : Psw) (k : PairNo) (s : State) : Word :=
  Word.ofBytes (readReg p (k ++ 0#1) s) (readReg p (k ++ 1#1) s)

/-- Writing a register pair. -/
def writePair (p : Psw) (k : PairNo) (w : Word) (s : State) : State :=
  writeReg p (k ++ 1#1) (Word.hi w) (writeReg p (k ++ 0#1) (Word.lo w) s)

/-- The register A names (R23, R24). PRESUMED, log 11. -/
def Psw.regA (p : Psw) : RegNo := if p.rss then 5#4 else 1#4

/-- The register X names. -/
def Psw.regX (p : Psw) : RegNo := if p.rss then 4#4 else 0#4

/-- The register C names. -/
def Psw.regC (p : Psw) : RegNo := if p.rss then 6#4 else 2#4

/-- The register B names. -/
def Psw.regB (p : Psw) : RegNo := if p.rss then 7#4 else 3#4

/-- The pair AX names: the 16-bit accumulator. -/
def Psw.accumulator (p : Psw) : PairNo := if p.rss then 2#3 else 0#3

/-- The pair VP (R23). -/
def pairVp : PairNo := 4#3

/-- The pair UP, the user stack pointer. -/
def pairUp : PairNo := 5#3

/-- The pair DE. -/
def pairDe : PairNo := 6#3

/-- The pair HL. -/
def pairHl : PairNo := 7#3

/-- The register a 3-bit field names. -/
def reg8 (r : Reg8) : RegNo := r.zeroExtend 4

/-! ## Stack (R30, R400) -/

/-- Storing a word below a pointer, the high byte first (R400(a)); the pointer itself is the caller's, read once for both bytes
(log 40). -/
def pushAt (pointer : Addr) (w : Word) (s : State) : Except Stop State := do
  let s ← writeByte (pointer - 1#16) (Word.hi w) s
  writeByte (pointer - 2#16) (Word.lo w) s

/-- A push on the stack of SP. -/
def push (w : Word) (s : State) : Except Stop State := do
  let t ← pushAt s.sp w s
  .ok (t.withSp (s.sp - 2#16))

/-- The PSW as the word PSWH : PSWL. -/
def Psw.word (p : Psw) : Word := Word.ofBytes p.low p.high

/-- The PSW that two bytes restore. -/
def Psw.restore (p : Psw) (low high : Byte) : Psw := (p.withLow low).withHigh high

/-! ## Entering an exception and returning from it (R603, R620, R622 to R624) -/

/-- A vectored entry: BRK, and an interrupt with its own vector (R406, R620). PSW and the return address go below SP, the
pc comes from the vector, IE is cleared, and the service is recorded (R623). DESIGN CHOICE, log 37: both bytes of the PSW are those
before the entry, also where the stack lies over the PSW. DESIGN CHOICE, log 40: the four stack addresses and the final SP come from
the SP before the entry, also where a store of the entry hits SP itself (FFFCH, FFFDH). -/
def enterVector (vector ret : Addr) (mark : Service) (s : State) : Except Stop State := do
  let t ← pushAt s.sp s.psw.word s
  let t ← pushAt (s.sp - 2#16) ret t
  let target ← readWord 0 vector t
  .ok { t with sp := s.sp - 4#16, pc := target, psw := { t.psw with ie := false }, service := mark :: t.service }

/-- A context-switch entry: BRKCS, and an interrupt in context-switch mode (R490, R622). The bank becomes `bank`, RSS and IE
are cleared; in the new bank R5:R4 gives the pc and receives the return address, R7:R6 receives the old PSW. -/
def enterBank (bank : BitVec 3) (ret : Addr) (mark : Service) (s : State) : State :=
  let p := { s.psw with rbs := bank, rss := false, ie := false }
  let target := readPair p 2#3 s
  let t := writePair p 3#3 s.psw.word (writePair p 2#3 ret s)
  { t with psw := p, pc := target, service := mark :: t.service }

/-- The in-service stack after "EOS <- 0": the innermost service ends, so the most recent entry leaves; an empty stack stays
empty (D30, R623). DESIGN CHOICE, log 30. -/
def endService (l : List Service) : List Service := l.tail

/-- The return from a vectored entry, RETI (R408, R623). DESIGN CHOICE, log 37: every byte is read before the PSW changes, also where
the stack lies over the PSW. -/
def returnVector (s : State) : Except Stop State := do
  let target ← readWord 0 s.sp s
  let low ← readByte 0 (s.sp + 2#16) s
  let high ← readByte 0 (s.sp + 3#16) s
  .ok { s with pc := target, psw := s.psw.restore low high, sp := s.sp + 4#16, eos := false,
               service := endService s.service }

/-- The return from a context-switch entry, RETCS (R491, R624): pc and PSW come from R5:R4 and R7:R6 of the bank being left,
whose R5:R4 is armed with the address of its next entry. -/
def returnBank (rearm : Addr) (s : State) : State :=
  let target := readPair s.psw 2#3 s
  let saved := readPair s.psw 3#3 s
  let t := writePair s.psw 2#3 rearm s
  { t with pc := target, psw := s.psw.restore (Word.lo saved) (Word.hi saved), eos := false,
           service := endService t.service }

/-! ## Control state outside the PSW -/

/-- TPF: bit 1 of CCW (R38). PRESUMED, log 13. -/
def tpf (s : State) : Bool := (s.byte ccwAddr).getLsbD 1

/-- The protected write of STBC and WDM: nothing is written unless the first data byte is the complement of the second
(R517, R518). PRESUMED, log 24. -/
def guardedWrite (a : Nat) (check v : Byte) (s : State) : State := if check = ~~~v then s.setByte a v else s

/-- The run state that a byte written to STBC asks for: bit 1 STOP, else bit 0 HALT (R650). PRESUMED, log 25. -/
def standbyOf (v : Byte) : RunState :=
  if v.getLsbD 1 then .stopped else if v.getLsbD 0 then .halted else .running

end Sys2Proof.Machine
end

