-- ==== Sys2Proof/Machine/Flags.lean ====
section
/-!
DEFINITION. Machine/Flags.lean: the arithmetic of the operations and every flag they compute (R260 to R272, R280 to R284,
R325 to R327, R340, R352).
-/

namespace Sys2Proof.Machine

/-- Even parity: the number of 1 bits is even (R12, D9). PRESUMED, log 19. -/
def parity {w : Nat} (v : BitVec w) : Bool := ((List.range w).filter fun i => v.getLsbD i).length % 2 == 0

/-- The 8-bit and logical operations (R260). -/
inductive AluOp where
  | add | addc | sub | subc | and | xor | or | cmp
  deriving DecidableEq, Repr

/-- CMP stores nothing (R263). -/
def AluOp.stores : AluOp → Bool
  | .cmp => false
  | _ => true

/-- A result and the three flags that depend on how it was computed. -/
structure Arith (w : Nat) where
  res : BitVec w
  cy : Bool
  ac : Bool
  pv : Bool
  deriving DecidableEq, Repr

/-- ADD and ADDC with a carry in (R262, R266, R267). -/
def add8 (a b : Byte) (c : Bool) : Arith 8 :=
  let t : BitVec 9 := a.zeroExtend 9 + b.zeroExtend 9 + (BitVec.ofBool c).zeroExtend 9
  let res := t.extractLsb' 0 8
  { res := res, cy := t.getLsbD 8,
    ac := decide (15 < (a.extractLsb' 0 4).toNat + (b.extractLsb' 0 4).toNat + c.toNat),
    pv := (a.getLsbD 7 == b.getLsbD 7) && (res.getLsbD 7 != a.getLsbD 7) }

/-- SUB, SUBC and CMP with a borrow in (R263, R266, R267). DEDUCED, log 20: AC is the borrow out of bit 3. -/
def sub8 (a b : Byte) (c : Bool) : Arith 8 :=
  let t : BitVec 9 := a.zeroExtend 9 - b.zeroExtend 9 - (BitVec.ofBool c).zeroExtend 9
  let res := t.extractLsb' 0 8
  { res := res, cy := t.getLsbD 8,
    ac := decide ((a.extractLsb' 0 4).toNat < (b.extractLsb' 0 4).toNat + c.toNat),
    pv := (a.getLsbD 7 != b.getLsbD 7) && (res.getLsbD 7 != a.getLsbD 7) }

/-- The PSW after an addition or subtraction: all six flags (R265 to R268). -/
def Psw.arith {w : Nat} (p : Psw) (r : Arith w) (subtract : Bool) : Psw :=
  { p with s := r.res.msb, z := r.res == 0#w, ac := r.ac, pv := r.pv, sub := subtract, cy := r.cy }

/-- The PSW after a logical operation: AC and CY keep their values (R265 to R268). -/
def Psw.logical (p : Psw) (r : Byte) : Psw :=
  { p with s := r.msb, z := r == 0#8, pv := parity r, sub := false }

/-- The result of an 8-bit operation with a carry in (R262 to R264). -/
def AluOp.result (op : AluOp) (c : Bool) (a b : Byte) : Byte :=
  match op with
  | .add => (add8 a b false).res
  | .addc => (add8 a b c).res
  | .sub | .cmp => (sub8 a b false).res
  | .subc => (sub8 a b c).res
  | .and => a &&& b
  | .xor => a ^^^ b
  | .or => a ||| b

/-- The flags of an 8-bit operation with a carry in, put into a PSW (R265 to R268). -/
def AluOp.flags (op : AluOp) (c : Bool) (a b : Byte) (p : Psw) : Psw :=
  match op with
  | .add => p.arith (add8 a b false) false
  | .addc => p.arith (add8 a b c) false
  | .sub | .cmp => p.arith (sub8 a b false) true
  | .subc => p.arith (sub8 a b c) true
  | .and => p.logical (a &&& b)
  | .xor => p.logical (a ^^^ b)
  | .or => p.logical (a ||| b)

/-- The word operations (R281, R282). -/
inductive WordOp where
  | addw | subw | cmpw
  deriving DecidableEq, Repr

/-- CMPW stores nothing (R282). -/
def WordOp.stores : WordOp → Bool
  | .cmpw => false
  | _ => true

/-- ADDW (R281, R283); AC is the free bit given. -/
def add16 (free : Bool) (a b : Word) : Arith 16 :=
  let t : BitVec 17 := a.zeroExtend 17 + b.zeroExtend 17
  let res := t.extractLsb' 0 16
  { res := res, cy := t.getLsbD 16, ac := free,
    pv := (a.getLsbD 15 == b.getLsbD 15) && (res.getLsbD 15 != a.getLsbD 15) }

/-- SUBW and CMPW (R282, R283); AC is the free bit given. -/
def sub16 (free : Bool) (a b : Word) : Arith 16 :=
  let t : BitVec 17 := a.zeroExtend 17 - b.zeroExtend 17
  let res := t.extractLsb' 0 16
  { res := res, cy := t.getLsbD 16, ac := free,
    pv := (a.getLsbD 15 != b.getLsbD 15) && (res.getLsbD 15 != a.getLsbD 15) }

/-- The result and flags of a word operation; AC is a free bit, log 21. -/
def alu16 (op : WordOp) (n : Nat) (a b : Word) : Arith 16 :=
  match op with
  | .addw => add16 (Config.freeBit n 0) a b
  | .subw | .cmpw => sub16 (Config.freeBit n 0) a b

/-- Whether a word operation is a subtraction. -/
def WordOp.subtracts : WordOp → Bool
  | .addw => false
  | _ => true

/-- The flags of INC on an old byte (R325); CY is kept. DEDUCED, log 20. -/
def Psw.inc8 (p : Psw) (a : Byte) : Psw :=
  { p with s := (a + 1#8).msb, z := a + 1#8 == 0#8, ac := a.extractLsb' 0 4 == 0xF#4, pv := a == 0x7F#8, sub := false }

/-- The flags of DEC on an old byte (R327); CY is kept. DEDUCED, log 20. -/
def Psw.dec8 (p : Psw) (a : Byte) : Psw :=
  { p with s := (a - 1#8).msb, z := a - 1#8 == 0#8, ac := a.extractLsb' 0 4 == 0x0#4, pv := a == 0x80#8, sub := true }

/-- One step applied n times (R340(b)). -/
def repeatStep {α : Type} (f : α → α) : Nat → α → α
  | 0, x => x
  | n + 1, x => repeatStep f n (f x)

/-- One step of ROR (R341): value and carry. -/
def rorStep (v : Byte × Bool) : Byte × Bool := (v.1.extractLsb' 0 1 ++ v.1.extractLsb' 1 7, v.1.getLsbD 0)

/-- One step of ROL (R342). -/
def rolStep (v : Byte × Bool) : Byte × Bool := (v.1.extractLsb' 0 7 ++ v.1.extractLsb' 7 1, v.1.getLsbD 7)

/-- One step of RORC (R343). -/
def rorcStep (v : Byte × Bool) : Byte × Bool := (BitVec.ofBool v.2 ++ v.1.extractLsb' 1 7, v.1.getLsbD 0)

/-- One step of ROLC (R344). -/
def rolcStep (v : Byte × Bool) : Byte × Bool := (v.1.extractLsb' 0 7 ++ BitVec.ofBool v.2, v.1.getLsbD 7)

/-- One step of SHR (R345). -/
def shrStep (v : Byte × Bool) : Byte × Bool := (0#1 ++ v.1.extractLsb' 1 7, v.1.getLsbD 0)

/-- One step of SHL (R346). -/
def shlStep (v : Byte × Bool) : Byte × Bool := (v.1.extractLsb' 0 7 ++ 0#1, v.1.getLsbD 7)

/-- One step of SHRW (R347). -/
def shrwStep (v : Word × Bool) : Word × Bool := (0#1 ++ v.1.extractLsb' 1 15, v.1.getLsbD 0)

/-- One step of SHLW (R348). -/
def shlwStep (v : Word × Bool) : Word × Bool := (v.1.extractLsb' 0 15 ++ 0#1, v.1.getLsbD 15)

/-- The flags of a rotate by `count` with this final value and carry (R340(d), (e)); by 0, P/V and SUB are free, log 22. -/
def rotateFlags (n count : Nat) (r : Byte × Bool) (p : Psw) : Psw :=
  if count = 0 then { p with pv := Config.freeBit n 0, sub := Config.freeBit n 1 }
  else { p with pv := parity r.1, sub := false, cy := r.2 }

/-- The flags of a shift by `count` with this final value and carry (R340(d), (e)); by 0, S, Z, AC, P/V and SUB are free,
log 22. -/
def shiftFlags {w : Nat} (n count : Nat) (r : BitVec w × Bool) (p : Psw) : Psw :=
  if count = 0 then
    { p with pv := Config.freeBit n 0, sub := Config.freeBit n 1, s := Config.freeBit n 2, z := Config.freeBit n 3,
             ac := Config.freeBit n 4 }
  else { p with s := r.1.msb, z := r.1 == 0#w, ac := false, pv := parity r.1, sub := false, cy := r.2 }

/-- ADJ4: the packed BCD correction, the default of `ADJ4_FN` (R352): the new accumulator, CY and AC. PRESUMED, log 18. -/
def adjust4 (a : Byte) (cy ac sub : Bool) : Byte × Bool × Bool :=
  if sub then (a - (if ac then 0x06#8 else 0#8) - (if cy then 0x60#8 else 0#8), cy, false)
  else
    let low := decide (9 < (a.extractLsb' 0 4).toNat) || ac
    let high := decide (0x99 < a.toNat) || cy
    (a + (if low then 0x06#8 else 0#8) + (if high then 0x60#8 else 0#8), high, low)

/-- The PSW after ADJ4 (R352); SUB is kept. -/
def Psw.adjusted (p : Psw) (r : Byte × Bool × Bool) : Psw :=
  { p with s := r.1.msb, z := r.1 == 0#8, pv := parity r.1, cy := r.2.1, ac := r.2.2 }

/-- A byte with one bit replaced (R363). -/
def putBit (v : Byte) (bit : BitVec 3) (b : Bool) : Byte :=
  if b then v ||| (1#8 <<< bit.toNat) else v &&& ~~~(1#8 <<< bit.toNat)

/-- One bit of a byte (R129). -/
def bitOf (v : Byte) (bit : BitVec 3) : Bool := v.getLsbD bit.toNat

end Sys2Proof.Machine
end

