-- ==== Sys2Proof/Machine/Operands.lean ====
section
/-!
DEFINITION. Machine/Operands.lean: every operand form: how it is read, written and addressed (R93 to R104, R123 to R138).
-/

namespace Sys2Proof.Machine

/-- `saddr(o)`: FE00H + o for o from 20H up, FF00H + o below (R93). -/
def saddr (off : Byte) : Addr := if off.toNat < 0x20 then 0xFF#8 ++ off else 0xFE#8 ++ off

/-- `sfr(o) = FF00H + o` (R95); SP and PSW are refused (R34, D35). -/
def sfrAddr (off : Byte) : Except Stop Addr :=
  if 0xFC ≤ off.toNat then .error (.refusal (.spPswOperand off)) else .ok (0xFF#8 ++ off)

/-- The address of a `saddrp` operand: an even offset (R92), and below 20H only a register with a 16-bit transfer (R52,
R236). -/
def saddrpAddr (off : Byte) : Except Stop Addr :=
  if off.getLsbD 0 then .error (.refusal (.oddWordOffset off))
  else if off.toNat < 0x20 && !isWordSfr off.toNat then .error (.refusal (.notWordSfr off))
  else .ok (saddr off)

/-- The address of an `sfrp` operand: an even offset that names a register with a 16-bit transfer (R52, R92). -/
def sfrpAddr (off : Byte) : Except Stop Addr :=
  if 0xFC ≤ off.toNat then .error (.refusal (.spPswOperand off))
  else if off.getLsbD 0 then .error (.refusal (.oddWordOffset off))
  else if !isWordSfr off.toNat then .error (.refusal (.notWordSfr off))
  else .ok (0xFF#8 ++ off)

/-- The address of the word of a `[saddrp]` operand, which is used as a pointer (R94): as `saddrp`. -/
def pointerWord (k : Nat) (off : Byte) (s : State) : Except Stop Addr := do
  let a ← saddrpAddr off
  readWord k a s

/-- A byte operand, its functional names already resolved (R24). -/
inductive ByteOperand where
  | imm (v : Byte)
  | reg (r : RegNo)
  | saddr (off : Byte)
  | sfr (off : Byte)
  | mem (a : Addr)
  | pswl
  | pswh
  deriving DecidableEq, Repr

/-- Reading a byte operand; `k` numbers the reads of one instruction, `p` is the PSW at its start. -/
def ByteOperand.read (o : ByteOperand) (k : Nat) (p : Psw) (s : State) : Except Stop Byte :=
  match o with
  | .imm v => .ok v
  | .reg r => .ok (readReg p r s)
  | .saddr off => readByte k (Machine.saddr off) s
  | .sfr off => do
    let a ← sfrAddr off
    readByte k a s
  | .mem a => readByte k a s
  | .pswl => .ok s.psw.low
  | .pswh => .ok s.psw.high

/-- Writing a byte operand; an immediate is never a destination. -/
def ByteOperand.write (o : ByteOperand) (v : Byte) (p : Psw) (s : State) : Except Stop State :=
  match o with
  | .imm _ => .ok s
  | .reg r => .ok (writeReg p r v s)
  | .saddr off => writeByte (Machine.saddr off) v s
  | .sfr off => do
    let a ← sfrAddr off
    writeByte a v s
  | .mem a => writeByte a v s
  | .pswl => .ok (s.withPsw (s.psw.withLow v))
  | .pswh => .ok (s.withPsw (s.psw.withHigh v))

/-- A word operand, its functional names already resolved. -/
inductive WordOperand where
  | imm (w : Word)
  | pair (k : PairNo)
  | saddrp (off : Byte)
  | sfrp (off : Byte)
  | mem (a : Addr)
  | sp
  deriving DecidableEq, Repr

/-- Reading a word operand. -/
def WordOperand.read (o : WordOperand) (k : Nat) (p : Psw) (s : State) : Except Stop Word :=
  match o with
  | .imm w => .ok w
  | .pair i => .ok (readPair p i s)
  | .saddrp off => do
    let a ← saddrpAddr off
    readWord k a s
  | .sfrp off => do
    let a ← sfrpAddr off
    readWord k a s
  | .mem a => readWord k a s
  | .sp => .ok s.sp

/-- Writing a word operand; an immediate is never a destination. -/
def WordOperand.write (o : WordOperand) (w : Word) (p : Psw) (s : State) : Except Stop State :=
  match o with
  | .imm _ => .ok s
  | .pair i => .ok (writePair p i w s)
  | .saddrp off => do
    let a ← saddrpAddr off
    writeWord a w s
  | .sfrp off => do
    let a ← sfrpAddr off
    writeWord a w s
  | .mem a => writeWord a w s
  | .sp => .ok (s.withSp w)

/-- The effective address of a `mem` operand, from the registers before the instruction, mod 10000H, 8-bit offsets zero
extended (R101 to R104, D8). DEDUCED, log 17. -/
def effectiveAddress (m : MemOperand) (s : State) : Addr :=
  let pair k := readPair s.psw k s
  let a := (readReg s.psw s.psw.regA s).zeroExtend 16
  let b := (readReg s.psw s.psw.regB s).zeroExtend 16
  match m with
  | .deInc | .deDec | .de => pair pairDe
  | .hlInc | .hlDec | .hl => pair pairHl
  | .vp => pair pairVp
  | .up => pair pairUp
  | .deA => pair pairDe + a
  | .hlA => pair pairHl + a
  | .deB => pair pairDe + b
  | .hlB => pair pairHl + b
  | .vpDe => pair pairVp + pair pairDe
  | .vpHl => pair pairVp + pair pairHl
  | .deByte v => pair pairDe + v.zeroExtend 16
  | .spByte v => s.sp + v.zeroExtend 16
  | .hlByte v => pair pairHl + v.zeroExtend 16
  | .upByte v => pair pairUp + v.zeroExtend 16
  | .vpByte v => pair pairVp + v.zeroExtend 16
  | .wordDe w => w + pair pairDe
  | .wordA w => w + a
  | .wordHl w => w + pair pairHl
  | .wordB w => w + b

/-- A pair changed by plus or minus one mod 10000H. -/
def stepPair (p : Psw) (k : PairNo) (up : Bool) (s : State) : State :=
  writePair p k (if up then readPair p k s + 1#16 else readPair p k s - 1#16) s

/-- The pointer update of an autoincrement or autodecrement mode, after the access (R101). -/
def bump (p : Psw) (m : MemOperand) (s : State) : State :=
  match m with
  | .deInc => stepPair p pairDe true s
  | .hlInc => stepPair p pairHl true s
  | .deDec => stepPair p pairDe false s
  | .hlDec => stepPair p pairHl false s
  | _ => s

/-- The target of a relative branch: the address after the branch plus the displacement (R136, R440). PRESUMED, log 15. -/
def branchTarget (next : Addr) (jdisp : Byte) : Addr := next + jdisp.signExtend 16

/-- The branch of an instruction of `n` bytes: to its target, or past it. -/
def State.branch (s : State) (n : Nat) (jdisp : Byte) (taken : Bool) : State :=
  let next := s.pc + BitVec.ofNat 16 n
  s.withPc (if taken then branchTarget next jdisp else next)

/-- The pair of an `rp2` operand (R128). -/
def pointerPair : PointerPair → PairNo
  | .vp => pairVp
  | .up => pairUp
  | .de => pairDe
  | .hl => pairHl

/-- The register of an `r2` operand (R125). -/
def countReg (p : Psw) : CountReg → RegNo
  | .c => p.regC
  | .b => p.regB

/-- The bits of a post byte in the order of PUSH and PUSHU, bit 7 first (R415). PRESUMED, log 16. -/
def pushOrder (post : Byte) : List PairNo :=
  [7#3, 6#3, 5#3, 4#3, 3#3, 2#3, 1#3, 0#3].filter fun k => post.getLsbD k.toNat

/-- The bits of a post byte in the order of POP and POPU, bit 0 first (R415). PRESUMED, log 16. -/
def popOrder (post : Byte) : List PairNo :=
  [0#3, 1#3, 2#3, 3#3, 4#3, 5#3, 6#3, 7#3].filter fun k => post.getLsbD k.toNat

end Sys2Proof.Machine
end

