-- ==== Sys2Proof/Machine/Alu16.lean ====
section
/-!
DEFINITION. Machine/Alu16.lean: ADDW, SUBW, CMPW (R280 to R305).
-/

namespace Sys2Proof.Machine

/-- A word operation of `n` bytes: the second operand is read, then the first; the result replaces the first, but for CMPW
(R281 to R284). -/
def alu16Step (op : WordOp) (n : Nat) (dst src : WordOperand) (s : State) : Except Stop State := do
  let b ← src.read 0 s.psw s
  let a ← dst.read 1 s.psw s
  let r := alu16 op s.draws a b
  let t ← if op.stores then dst.write r.res s.psw s else .ok s
  .ok ((t.withPsw (t.psw.arith r op.subtracts)).advance n)

/-- `ADDW AX,#word` (R285). -/
def execAddwAxWord (w : Word) (s : State) : Host.Outcome State Fault Refusal :=
  finish (alu16Step .addw 3 (.pair s.psw.accumulator) (.imm w) s)

/-- `ADDW saddrp,#word` (R286). -/
def execAddwSaddrpWord (off : Byte) (w : Word) (s : State) : Host.Outcome State Fault Refusal :=
  finish (alu16Step .addw 4 (.saddrp off) (.imm w) s)

/-- `ADDW sfrp,#word` (R287). -/
def execAddwSfrpWord (off : Byte) (w : Word) (s : State) : Host.Outcome State Fault Refusal :=
  finish (alu16Step .addw 5 (.sfrp off) (.imm w) s)

/-- `ADDW rp,rp1` (R288). -/
def execAddwRpRp1 (rp : PairNo) (rp1 : PairNo) (s : State) : Host.Outcome State Fault Refusal :=
  finish (alu16Step .addw 2 (.pair rp) (.pair rp1) s)

/-- `ADDW AX,saddrp` (R289). -/
def execAddwAxSaddrp (off : Byte) (s : State) : Host.Outcome State Fault Refusal :=
  finish (alu16Step .addw 2 (.pair s.psw.accumulator) (.saddrp off) s)

/-- `ADDW AX,sfrp` (R290). -/
def execAddwAxSfrp (off : Byte) (s : State) : Host.Outcome State Fault Refusal :=
  finish (alu16Step .addw 3 (.pair s.psw.accumulator) (.sfrp off) s)

/-- `ADDW saddrp,saddrp` (R291). -/
def execAddwSaddrpSaddrp (dst : Byte) (src : Byte) (s : State) : Host.Outcome State Fault Refusal :=
  finish (alu16Step .addw 3 (.saddrp dst) (.saddrp src) s)

/-- `SUBW AX,#word` (R292). -/
def execSubwAxWord (w : Word) (s : State) : Host.Outcome State Fault Refusal :=
  finish (alu16Step .subw 3 (.pair s.psw.accumulator) (.imm w) s)

/-- `SUBW saddrp,#word` (R293). -/
def execSubwSaddrpWord (off : Byte) (w : Word) (s : State) : Host.Outcome State Fault Refusal :=
  finish (alu16Step .subw 4 (.saddrp off) (.imm w) s)

/-- `SUBW sfrp,#word` (R294). -/
def execSubwSfrpWord (off : Byte) (w : Word) (s : State) : Host.Outcome State Fault Refusal :=
  finish (alu16Step .subw 5 (.sfrp off) (.imm w) s)

/-- `SUBW rp,rp1` (R295). -/
def execSubwRpRp1 (rp : PairNo) (rp1 : PairNo) (s : State) : Host.Outcome State Fault Refusal :=
  finish (alu16Step .subw 2 (.pair rp) (.pair rp1) s)

/-- `SUBW AX,saddrp` (R296). -/
def execSubwAxSaddrp (off : Byte) (s : State) : Host.Outcome State Fault Refusal :=
  finish (alu16Step .subw 2 (.pair s.psw.accumulator) (.saddrp off) s)

/-- `SUBW AX,sfrp` (R297). -/
def execSubwAxSfrp (off : Byte) (s : State) : Host.Outcome State Fault Refusal :=
  finish (alu16Step .subw 3 (.pair s.psw.accumulator) (.sfrp off) s)

/-- `SUBW saddrp,saddrp` (R298). -/
def execSubwSaddrpSaddrp (dst : Byte) (src : Byte) (s : State) : Host.Outcome State Fault Refusal :=
  finish (alu16Step .subw 3 (.saddrp dst) (.saddrp src) s)

/-- `CMPW AX,#word` (R299). -/
def execCmpwAxWord (w : Word) (s : State) : Host.Outcome State Fault Refusal :=
  finish (alu16Step .cmpw 3 (.pair s.psw.accumulator) (.imm w) s)

/-- `CMPW saddrp,#word` (R300). -/
def execCmpwSaddrpWord (off : Byte) (w : Word) (s : State) : Host.Outcome State Fault Refusal :=
  finish (alu16Step .cmpw 4 (.saddrp off) (.imm w) s)

/-- `CMPW sfrp,#word` (R301). -/
def execCmpwSfrpWord (off : Byte) (w : Word) (s : State) : Host.Outcome State Fault Refusal :=
  finish (alu16Step .cmpw 5 (.sfrp off) (.imm w) s)

/-- `CMPW rp,rp1` (R302). -/
def execCmpwRpRp1 (rp : PairNo) (rp1 : PairNo) (s : State) : Host.Outcome State Fault Refusal :=
  finish (alu16Step .cmpw 2 (.pair rp) (.pair rp1) s)

/-- `CMPW AX,saddrp` (R303). -/
def execCmpwAxSaddrp (off : Byte) (s : State) : Host.Outcome State Fault Refusal :=
  finish (alu16Step .cmpw 2 (.pair s.psw.accumulator) (.saddrp off) s)

/-- `CMPW AX,sfrp` (R304). -/
def execCmpwAxSfrp (off : Byte) (s : State) : Host.Outcome State Fault Refusal :=
  finish (alu16Step .cmpw 3 (.pair s.psw.accumulator) (.sfrp off) s)

/-- `CMPW saddrp,saddrp` (R305). -/
def execCmpwSaddrpSaddrp (dst : Byte) (src : Byte) (s : State) : Host.Outcome State Fault Refusal :=
  finish (alu16Step .cmpw 3 (.saddrp dst) (.saddrp src) s)

end Sys2Proof.Machine
end

