-- ==== Sys2Proof/Machine/Alu8.lean ====
section
/-!
DEFINITION. Machine/Alu8.lean: ADD, ADDC, SUB, SUBC, AND, XOR, OR, CMP (R260 to R272, R800 to R871).
-/

namespace Sys2Proof.Machine

/-- An 8-bit operation: the second operand is read, then the first; the result replaces the first operand, but for CMP; then
the flags are written (R262 to R269). -/
def alu8 (op : AluOp) (dst src : ByteOperand) (s : State) : Except Stop State := do
  let b ← src.read 0 s.psw s
  let a ← dst.read 1 s.psw s
  let t ← if op.stores then dst.write (op.result s.psw.cy a b) s.psw s else .ok s
  .ok (t.withPsw (op.flags s.psw.cy a b t.psw))

/-- An 8-bit operation of `n` bytes. -/
def alu8Step (op : AluOp) (n : Nat) (dst src : ByteOperand) (s : State) : Except Stop State := do
  let t ← alu8 op dst src s
  .ok (t.advance n)

/-- An 8-bit operation with a `mem` operand: EA is computed once, the pointer update comes last, for CMP too (R269). -/
def alu8Mem (op : AluOp) (toMem : Bool) (m : MemOperand) (s : State) : Except Stop State := do
  let ea := ByteOperand.mem (effectiveAddress m s)
  let acc := ByteOperand.reg s.psw.regA
  let t ← if toMem then alu8 op ea acc s else alu8 op acc ea s
  .ok ((bump s.psw m t).advance m.length)

/-- `ADD A,#byte` (R800). -/
def execAddAByte (byte : Byte) (s : State) : Host.Outcome State Fault Refusal :=
  finish (alu8Step .add 2 (.reg s.psw.regA) (.imm byte) s)

/-- `ADD saddr,#byte` (R801). -/
def execAddSaddrByte (off : Byte) (byte : Byte) (s : State) : Host.Outcome State Fault Refusal :=
  finish (alu8Step .add 3 (.saddr off) (.imm byte) s)

/-- `ADD sfr,#byte` (R802). -/
def execAddSfrByte (off : Byte) (byte : Byte) (s : State) : Host.Outcome State Fault Refusal :=
  finish (alu8Step .add 4 (.sfr off) (.imm byte) s)

/-- `ADD r,r1` (R803). -/
def execAddRR1 (r : RegNo) (r1 : Reg8) (s : State) : Host.Outcome State Fault Refusal :=
  finish (alu8Step .add 2 (.reg r) (.reg (reg8 r1)) s)

/-- `ADD A,saddr` (R804). -/
def execAddASaddr (off : Byte) (s : State) : Host.Outcome State Fault Refusal :=
  finish (alu8Step .add 2 (.reg s.psw.regA) (.saddr off) s)

/-- `ADD A,sfr` (R805). -/
def execAddASfr (off : Byte) (s : State) : Host.Outcome State Fault Refusal :=
  finish (alu8Step .add 3 (.reg s.psw.regA) (.sfr off) s)

/-- `ADD saddr,saddr` (R806). -/
def execAddSaddrSaddr (dst : Byte) (src : Byte) (s : State) : Host.Outcome State Fault Refusal :=
  finish (alu8Step .add 3 (.saddr dst) (.saddr src) s)

/-- `ADD A,mem` (R807). -/
def execAddAMem (m : MemOperand) (s : State) : Host.Outcome State Fault Refusal := finish (alu8Mem .add false m s)

/-- `ADD mem,A` (R808). -/
def execAddMemA (m : MemOperand) (s : State) : Host.Outcome State Fault Refusal := finish (alu8Mem .add true m s)

/-- `ADDC A,#byte` (R809). -/
def execAddcAByte (byte : Byte) (s : State) : Host.Outcome State Fault Refusal :=
  finish (alu8Step .addc 2 (.reg s.psw.regA) (.imm byte) s)

/-- `ADDC saddr,#byte` (R810). -/
def execAddcSaddrByte (off : Byte) (byte : Byte) (s : State) : Host.Outcome State Fault Refusal :=
  finish (alu8Step .addc 3 (.saddr off) (.imm byte) s)

/-- `ADDC sfr,#byte` (R811). -/
def execAddcSfrByte (off : Byte) (byte : Byte) (s : State) : Host.Outcome State Fault Refusal :=
  finish (alu8Step .addc 4 (.sfr off) (.imm byte) s)

/-- `ADDC r,r1` (R812). -/
def execAddcRR1 (r : RegNo) (r1 : Reg8) (s : State) : Host.Outcome State Fault Refusal :=
  finish (alu8Step .addc 2 (.reg r) (.reg (reg8 r1)) s)

/-- `ADDC A,saddr` (R813). -/
def execAddcASaddr (off : Byte) (s : State) : Host.Outcome State Fault Refusal :=
  finish (alu8Step .addc 2 (.reg s.psw.regA) (.saddr off) s)

/-- `ADDC A,sfr` (R814). -/
def execAddcASfr (off : Byte) (s : State) : Host.Outcome State Fault Refusal :=
  finish (alu8Step .addc 3 (.reg s.psw.regA) (.sfr off) s)

/-- `ADDC saddr,saddr` (R815). -/
def execAddcSaddrSaddr (dst : Byte) (src : Byte) (s : State) : Host.Outcome State Fault Refusal :=
  finish (alu8Step .addc 3 (.saddr dst) (.saddr src) s)

/-- `ADDC A,mem` (R816). -/
def execAddcAMem (m : MemOperand) (s : State) : Host.Outcome State Fault Refusal := finish (alu8Mem .addc false m s)

/-- `ADDC mem,A` (R817). -/
def execAddcMemA (m : MemOperand) (s : State) : Host.Outcome State Fault Refusal := finish (alu8Mem .addc true m s)

/-- `SUB A,#byte` (R818). -/
def execSubAByte (byte : Byte) (s : State) : Host.Outcome State Fault Refusal :=
  finish (alu8Step .sub 2 (.reg s.psw.regA) (.imm byte) s)

/-- `SUB saddr,#byte` (R819). -/
def execSubSaddrByte (off : Byte) (byte : Byte) (s : State) : Host.Outcome State Fault Refusal :=
  finish (alu8Step .sub 3 (.saddr off) (.imm byte) s)

/-- `SUB sfr,#byte` (R820). -/
def execSubSfrByte (off : Byte) (byte : Byte) (s : State) : Host.Outcome State Fault Refusal :=
  finish (alu8Step .sub 4 (.sfr off) (.imm byte) s)

/-- `SUB r,r1` (R821). -/
def execSubRR1 (r : RegNo) (r1 : Reg8) (s : State) : Host.Outcome State Fault Refusal :=
  finish (alu8Step .sub 2 (.reg r) (.reg (reg8 r1)) s)

/-- `SUB A,saddr` (R822). -/
def execSubASaddr (off : Byte) (s : State) : Host.Outcome State Fault Refusal :=
  finish (alu8Step .sub 2 (.reg s.psw.regA) (.saddr off) s)

/-- `SUB A,sfr` (R823). -/
def execSubASfr (off : Byte) (s : State) : Host.Outcome State Fault Refusal :=
  finish (alu8Step .sub 3 (.reg s.psw.regA) (.sfr off) s)

/-- `SUB saddr,saddr` (R824). -/
def execSubSaddrSaddr (dst : Byte) (src : Byte) (s : State) : Host.Outcome State Fault Refusal :=
  finish (alu8Step .sub 3 (.saddr dst) (.saddr src) s)

/-- `SUB A,mem` (R825). -/
def execSubAMem (m : MemOperand) (s : State) : Host.Outcome State Fault Refusal := finish (alu8Mem .sub false m s)

/-- `SUB mem,A` (R826). -/
def execSubMemA (m : MemOperand) (s : State) : Host.Outcome State Fault Refusal := finish (alu8Mem .sub true m s)

/-- `SUBC A,#byte` (R827). -/
def execSubcAByte (byte : Byte) (s : State) : Host.Outcome State Fault Refusal :=
  finish (alu8Step .subc 2 (.reg s.psw.regA) (.imm byte) s)

/-- `SUBC saddr,#byte` (R828). -/
def execSubcSaddrByte (off : Byte) (byte : Byte) (s : State) : Host.Outcome State Fault Refusal :=
  finish (alu8Step .subc 3 (.saddr off) (.imm byte) s)

/-- `SUBC sfr,#byte` (R829). -/
def execSubcSfrByte (off : Byte) (byte : Byte) (s : State) : Host.Outcome State Fault Refusal :=
  finish (alu8Step .subc 4 (.sfr off) (.imm byte) s)

/-- `SUBC r,r1` (R830). -/
def execSubcRR1 (r : RegNo) (r1 : Reg8) (s : State) : Host.Outcome State Fault Refusal :=
  finish (alu8Step .subc 2 (.reg r) (.reg (reg8 r1)) s)

/-- `SUBC A,saddr` (R831). -/
def execSubcASaddr (off : Byte) (s : State) : Host.Outcome State Fault Refusal :=
  finish (alu8Step .subc 2 (.reg s.psw.regA) (.saddr off) s)

/-- `SUBC A,sfr` (R832). -/
def execSubcASfr (off : Byte) (s : State) : Host.Outcome State Fault Refusal :=
  finish (alu8Step .subc 3 (.reg s.psw.regA) (.sfr off) s)

/-- `SUBC saddr,saddr` (R833). -/
def execSubcSaddrSaddr (dst : Byte) (src : Byte) (s : State) : Host.Outcome State Fault Refusal :=
  finish (alu8Step .subc 3 (.saddr dst) (.saddr src) s)

/-- `SUBC A,mem` (R834). -/
def execSubcAMem (m : MemOperand) (s : State) : Host.Outcome State Fault Refusal := finish (alu8Mem .subc false m s)

/-- `SUBC mem,A` (R835). -/
def execSubcMemA (m : MemOperand) (s : State) : Host.Outcome State Fault Refusal := finish (alu8Mem .subc true m s)

/-- `AND A,#byte` (R836). -/
def execAndAByte (byte : Byte) (s : State) : Host.Outcome State Fault Refusal :=
  finish (alu8Step .and 2 (.reg s.psw.regA) (.imm byte) s)

/-- `AND saddr,#byte` (R837). -/
def execAndSaddrByte (off : Byte) (byte : Byte) (s : State) : Host.Outcome State Fault Refusal :=
  finish (alu8Step .and 3 (.saddr off) (.imm byte) s)

/-- `AND sfr,#byte` (R838). -/
def execAndSfrByte (off : Byte) (byte : Byte) (s : State) : Host.Outcome State Fault Refusal :=
  finish (alu8Step .and 4 (.sfr off) (.imm byte) s)

/-- `AND r,r1` (R839). -/
def execAndRR1 (r : RegNo) (r1 : Reg8) (s : State) : Host.Outcome State Fault Refusal :=
  finish (alu8Step .and 2 (.reg r) (.reg (reg8 r1)) s)

/-- `AND A,saddr` (R840). -/
def execAndASaddr (off : Byte) (s : State) : Host.Outcome State Fault Refusal :=
  finish (alu8Step .and 2 (.reg s.psw.regA) (.saddr off) s)

/-- `AND A,sfr` (R841). -/
def execAndASfr (off : Byte) (s : State) : Host.Outcome State Fault Refusal :=
  finish (alu8Step .and 3 (.reg s.psw.regA) (.sfr off) s)

/-- `AND saddr,saddr` (R842). -/
def execAndSaddrSaddr (dst : Byte) (src : Byte) (s : State) : Host.Outcome State Fault Refusal :=
  finish (alu8Step .and 3 (.saddr dst) (.saddr src) s)

/-- `AND A,mem` (R843). -/
def execAndAMem (m : MemOperand) (s : State) : Host.Outcome State Fault Refusal := finish (alu8Mem .and false m s)

/-- `AND mem,A` (R844). -/
def execAndMemA (m : MemOperand) (s : State) : Host.Outcome State Fault Refusal := finish (alu8Mem .and true m s)

/-- `XOR A,#byte` (R845). -/
def execXorAByte (byte : Byte) (s : State) : Host.Outcome State Fault Refusal :=
  finish (alu8Step .xor 2 (.reg s.psw.regA) (.imm byte) s)

/-- `XOR saddr,#byte` (R846). -/
def execXorSaddrByte (off : Byte) (byte : Byte) (s : State) : Host.Outcome State Fault Refusal :=
  finish (alu8Step .xor 3 (.saddr off) (.imm byte) s)

/-- `XOR sfr,#byte` (R847). -/
def execXorSfrByte (off : Byte) (byte : Byte) (s : State) : Host.Outcome State Fault Refusal :=
  finish (alu8Step .xor 4 (.sfr off) (.imm byte) s)

/-- `XOR r,r1` (R848). -/
def execXorRR1 (r : RegNo) (r1 : Reg8) (s : State) : Host.Outcome State Fault Refusal :=
  finish (alu8Step .xor 2 (.reg r) (.reg (reg8 r1)) s)

/-- `XOR A,saddr` (R849). -/
def execXorASaddr (off : Byte) (s : State) : Host.Outcome State Fault Refusal :=
  finish (alu8Step .xor 2 (.reg s.psw.regA) (.saddr off) s)

/-- `XOR A,sfr` (R850). -/
def execXorASfr (off : Byte) (s : State) : Host.Outcome State Fault Refusal :=
  finish (alu8Step .xor 3 (.reg s.psw.regA) (.sfr off) s)

/-- `XOR saddr,saddr` (R851). -/
def execXorSaddrSaddr (dst : Byte) (src : Byte) (s : State) : Host.Outcome State Fault Refusal :=
  finish (alu8Step .xor 3 (.saddr dst) (.saddr src) s)

/-- `XOR A,mem` (R852). -/
def execXorAMem (m : MemOperand) (s : State) : Host.Outcome State Fault Refusal := finish (alu8Mem .xor false m s)

/-- `XOR mem,A` (R853). -/
def execXorMemA (m : MemOperand) (s : State) : Host.Outcome State Fault Refusal := finish (alu8Mem .xor true m s)

/-- `OR A,#byte` (R854). -/
def execOrAByte (byte : Byte) (s : State) : Host.Outcome State Fault Refusal :=
  finish (alu8Step .or 2 (.reg s.psw.regA) (.imm byte) s)

/-- `OR saddr,#byte` (R855). -/
def execOrSaddrByte (off : Byte) (byte : Byte) (s : State) : Host.Outcome State Fault Refusal :=
  finish (alu8Step .or 3 (.saddr off) (.imm byte) s)

/-- `OR sfr,#byte` (R856). -/
def execOrSfrByte (off : Byte) (byte : Byte) (s : State) : Host.Outcome State Fault Refusal :=
  finish (alu8Step .or 4 (.sfr off) (.imm byte) s)

/-- `OR r,r1` (R857). -/
def execOrRR1 (r : RegNo) (r1 : Reg8) (s : State) : Host.Outcome State Fault Refusal :=
  finish (alu8Step .or 2 (.reg r) (.reg (reg8 r1)) s)

/-- `OR A,saddr` (R858). -/
def execOrASaddr (off : Byte) (s : State) : Host.Outcome State Fault Refusal :=
  finish (alu8Step .or 2 (.reg s.psw.regA) (.saddr off) s)

/-- `OR A,sfr` (R859). -/
def execOrASfr (off : Byte) (s : State) : Host.Outcome State Fault Refusal :=
  finish (alu8Step .or 3 (.reg s.psw.regA) (.sfr off) s)

/-- `OR saddr,saddr` (R860). -/
def execOrSaddrSaddr (dst : Byte) (src : Byte) (s : State) : Host.Outcome State Fault Refusal :=
  finish (alu8Step .or 3 (.saddr dst) (.saddr src) s)

/-- `OR A,mem` (R861). -/
def execOrAMem (m : MemOperand) (s : State) : Host.Outcome State Fault Refusal := finish (alu8Mem .or false m s)

/-- `OR mem,A` (R862). -/
def execOrMemA (m : MemOperand) (s : State) : Host.Outcome State Fault Refusal := finish (alu8Mem .or true m s)

/-- `CMP A,#byte` (R863). -/
def execCmpAByte (byte : Byte) (s : State) : Host.Outcome State Fault Refusal :=
  finish (alu8Step .cmp 2 (.reg s.psw.regA) (.imm byte) s)

/-- `CMP saddr,#byte` (R864). -/
def execCmpSaddrByte (off : Byte) (byte : Byte) (s : State) : Host.Outcome State Fault Refusal :=
  finish (alu8Step .cmp 3 (.saddr off) (.imm byte) s)

/-- `CMP sfr,#byte` (R865). -/
def execCmpSfrByte (off : Byte) (byte : Byte) (s : State) : Host.Outcome State Fault Refusal :=
  finish (alu8Step .cmp 4 (.sfr off) (.imm byte) s)

/-- `CMP r,r1` (R866). -/
def execCmpRR1 (r : RegNo) (r1 : Reg8) (s : State) : Host.Outcome State Fault Refusal :=
  finish (alu8Step .cmp 2 (.reg r) (.reg (reg8 r1)) s)

/-- `CMP A,saddr` (R867). -/
def execCmpASaddr (off : Byte) (s : State) : Host.Outcome State Fault Refusal :=
  finish (alu8Step .cmp 2 (.reg s.psw.regA) (.saddr off) s)

/-- `CMP A,sfr` (R868). -/
def execCmpASfr (off : Byte) (s : State) : Host.Outcome State Fault Refusal :=
  finish (alu8Step .cmp 3 (.reg s.psw.regA) (.sfr off) s)

/-- `CMP saddr,saddr` (R869). -/
def execCmpSaddrSaddr (dst : Byte) (src : Byte) (s : State) : Host.Outcome State Fault Refusal :=
  finish (alu8Step .cmp 3 (.saddr dst) (.saddr src) s)

/-- `CMP A,mem` (R870). -/
def execCmpAMem (m : MemOperand) (s : State) : Host.Outcome State Fault Refusal := finish (alu8Mem .cmp false m s)

/-- `CMP mem,A` (R871). -/
def execCmpMemA (m : MemOperand) (s : State) : Host.Outcome State Fault Refusal := finish (alu8Mem .cmp true m s)

end Sys2Proof.Machine
end

