-- ==== Sys2Proof/Machine/Bits.lean ====
section
/-!
DEFINITION. Machine/Bits.lean: MOV1, AND1, OR1, XOR1, SET1, CLR1, NOT1 (R360 to R369, R900 to R962).
-/

namespace Sys2Proof.Machine

/-- The PSW with another carry. -/
def Psw.withCy (p : Psw) (b : Bool) : Psw := { p with cy := b }

/-- A form whose destination is CY: one byte is read and CY becomes `f CY bit` (R363, R364). -/
def toCarry (f : Bool → Bool → Bool) (n : Nat) (o : ByteOperand) (bit : BitVec 3) (s : State) : Except Stop State := do
  let v ← o.read 0 s.psw s
  .ok ((s.withPsw (s.psw.withCy (f s.psw.cy (bitOf v bit)))).advance n)

/-- A form whose destination is a bit: one byte is read, the bit becomes `f CY bit`, the byte is written back (R363, R364). -/
def toBit (f : Bool → Bool → Bool) (n : Nat) (o : ByteOperand) (bit : BitVec 3) (s : State) : Except Stop State := do
  let v ← o.read 0 s.psw s
  let t ← o.write (putBit v bit (f s.psw.cy (bitOf v bit))) s.psw s
  .ok (t.advance n)

/-- A one-byte form on CY alone. -/
def onCarry (f : Bool → Bool) (s : State) : State := (s.withPsw (s.psw.withCy (f s.psw.cy))).advance 1

/-- `MOV1 CY,saddr.bit` (R900). -/
def execMov1CySaddrBit (off : Byte) (bit : BitVec 3) (s : State) : Host.Outcome State Fault Refusal :=
  finish (toCarry (fun _ b => b) 3 (.saddr off) bit s)

/-- `MOV1 CY,sfr.bit` (R901). -/
def execMov1CySfrBit (off : Byte) (bit : BitVec 3) (s : State) : Host.Outcome State Fault Refusal :=
  finish (toCarry (fun _ b => b) 3 (.sfr off) bit s)

/-- `MOV1 CY,A.bit` (R902). -/
def execMov1CyABit (bit : BitVec 3) (s : State) : Host.Outcome State Fault Refusal :=
  finish (toCarry (fun _ b => b) 2 (.reg s.psw.regA) bit s)

/-- `MOV1 CY,X.bit` (R903). -/
def execMov1CyXBit (bit : BitVec 3) (s : State) : Host.Outcome State Fault Refusal :=
  finish (toCarry (fun _ b => b) 2 (.reg s.psw.regX) bit s)

/-- `MOV1 CY,PSWH.bit` (R904). -/
def execMov1CyPswhBit (bit : BitVec 3) (s : State) : Host.Outcome State Fault Refusal :=
  finish (toCarry (fun _ b => b) 2 .pswh bit s)

/-- `MOV1 CY,PSWL.bit` (R905). -/
def execMov1CyPswlBit (bit : BitVec 3) (s : State) : Host.Outcome State Fault Refusal :=
  finish (toCarry (fun _ b => b) 2 .pswl bit s)

/-- `MOV1 saddr.bit,CY` (R906). -/
def execMov1SaddrBitCy (off : Byte) (bit : BitVec 3) (s : State) : Host.Outcome State Fault Refusal :=
  finish (toBit (fun c _ => c) 3 (.saddr off) bit s)

/-- `MOV1 sfr.bit,CY` (R907). -/
def execMov1SfrBitCy (off : Byte) (bit : BitVec 3) (s : State) : Host.Outcome State Fault Refusal :=
  finish (toBit (fun c _ => c) 3 (.sfr off) bit s)

/-- `MOV1 A.bit,CY` (R908). -/
def execMov1ABitCy (bit : BitVec 3) (s : State) : Host.Outcome State Fault Refusal :=
  finish (toBit (fun c _ => c) 2 (.reg s.psw.regA) bit s)

/-- `MOV1 X.bit,CY` (R909). -/
def execMov1XBitCy (bit : BitVec 3) (s : State) : Host.Outcome State Fault Refusal :=
  finish (toBit (fun c _ => c) 2 (.reg s.psw.regX) bit s)

/-- `MOV1 PSWH.bit,CY` (R910). -/
def execMov1PswhBitCy (bit : BitVec 3) (s : State) : Host.Outcome State Fault Refusal :=
  finish (toBit (fun c _ => c) 2 .pswh bit s)

/-- `MOV1 PSWL.bit,CY` (R911). -/
def execMov1PswlBitCy (bit : BitVec 3) (s : State) : Host.Outcome State Fault Refusal :=
  finish (toBit (fun c _ => c) 2 .pswl bit s)

/-- `AND1 CY,saddr.bit` (R912). -/
def execAnd1CySaddrBit (off : Byte) (bit : BitVec 3) (s : State) : Host.Outcome State Fault Refusal :=
  finish (toCarry (fun c b => c && b) 3 (.saddr off) bit s)

/-- `AND1 CY,/saddr.bit` (R913). -/
def execAnd1CyNotSaddrBit (off : Byte) (bit : BitVec 3) (s : State) : Host.Outcome State Fault Refusal :=
  finish (toCarry (fun c b => c && !b) 3 (.saddr off) bit s)

/-- `AND1 CY,sfr.bit` (R914). -/
def execAnd1CySfrBit (off : Byte) (bit : BitVec 3) (s : State) : Host.Outcome State Fault Refusal :=
  finish (toCarry (fun c b => c && b) 3 (.sfr off) bit s)

/-- `AND1 CY,/sfr.bit` (R915). -/
def execAnd1CyNotSfrBit (off : Byte) (bit : BitVec 3) (s : State) : Host.Outcome State Fault Refusal :=
  finish (toCarry (fun c b => c && !b) 3 (.sfr off) bit s)

/-- `AND1 CY,A.bit` (R916). -/
def execAnd1CyABit (bit : BitVec 3) (s : State) : Host.Outcome State Fault Refusal :=
  finish (toCarry (fun c b => c && b) 2 (.reg s.psw.regA) bit s)

/-- `AND1 CY,/A.bit` (R917). -/
def execAnd1CyNotABit (bit : BitVec 3) (s : State) : Host.Outcome State Fault Refusal :=
  finish (toCarry (fun c b => c && !b) 2 (.reg s.psw.regA) bit s)

/-- `AND1 CY,X.bit` (R918). -/
def execAnd1CyXBit (bit : BitVec 3) (s : State) : Host.Outcome State Fault Refusal :=
  finish (toCarry (fun c b => c && b) 2 (.reg s.psw.regX) bit s)

/-- `AND1 CY,/X.bit` (R919). -/
def execAnd1CyNotXBit (bit : BitVec 3) (s : State) : Host.Outcome State Fault Refusal :=
  finish (toCarry (fun c b => c && !b) 2 (.reg s.psw.regX) bit s)

/-- `AND1 CY,PSWH.bit` (R920). -/
def execAnd1CyPswhBit (bit : BitVec 3) (s : State) : Host.Outcome State Fault Refusal :=
  finish (toCarry (fun c b => c && b) 2 .pswh bit s)

/-- `AND1 CY,/PSWH.bit` (R921). -/
def execAnd1CyNotPswhBit (bit : BitVec 3) (s : State) : Host.Outcome State Fault Refusal :=
  finish (toCarry (fun c b => c && !b) 2 .pswh bit s)

/-- `AND1 CY,PSWL.bit` (R922). -/
def execAnd1CyPswlBit (bit : BitVec 3) (s : State) : Host.Outcome State Fault Refusal :=
  finish (toCarry (fun c b => c && b) 2 .pswl bit s)

/-- `AND1 CY,/PSWL.bit` (R923). -/
def execAnd1CyNotPswlBit (bit : BitVec 3) (s : State) : Host.Outcome State Fault Refusal :=
  finish (toCarry (fun c b => c && !b) 2 .pswl bit s)

/-- `OR1 CY,saddr.bit` (R924). -/
def execOr1CySaddrBit (off : Byte) (bit : BitVec 3) (s : State) : Host.Outcome State Fault Refusal :=
  finish (toCarry (fun c b => c || b) 3 (.saddr off) bit s)

/-- `OR1 CY,/saddr.bit` (R925). -/
def execOr1CyNotSaddrBit (off : Byte) (bit : BitVec 3) (s : State) : Host.Outcome State Fault Refusal :=
  finish (toCarry (fun c b => c || !b) 3 (.saddr off) bit s)

/-- `OR1 CY,sfr.bit` (R926). -/
def execOr1CySfrBit (off : Byte) (bit : BitVec 3) (s : State) : Host.Outcome State Fault Refusal :=
  finish (toCarry (fun c b => c || b) 3 (.sfr off) bit s)

/-- `OR1 CY,/sfr.bit` (R927). -/
def execOr1CyNotSfrBit (off : Byte) (bit : BitVec 3) (s : State) : Host.Outcome State Fault Refusal :=
  finish (toCarry (fun c b => c || !b) 3 (.sfr off) bit s)

/-- `OR1 CY,A.bit` (R928). -/
def execOr1CyABit (bit : BitVec 3) (s : State) : Host.Outcome State Fault Refusal :=
  finish (toCarry (fun c b => c || b) 2 (.reg s.psw.regA) bit s)

/-- `OR1 CY,/A.bit` (R929). -/
def execOr1CyNotABit (bit : BitVec 3) (s : State) : Host.Outcome State Fault Refusal :=
  finish (toCarry (fun c b => c || !b) 2 (.reg s.psw.regA) bit s)

/-- `OR1 CY,X.bit` (R930). -/
def execOr1CyXBit (bit : BitVec 3) (s : State) : Host.Outcome State Fault Refusal :=
  finish (toCarry (fun c b => c || b) 2 (.reg s.psw.regX) bit s)

/-- `OR1 CY,/X.bit` (R931). -/
def execOr1CyNotXBit (bit : BitVec 3) (s : State) : Host.Outcome State Fault Refusal :=
  finish (toCarry (fun c b => c || !b) 2 (.reg s.psw.regX) bit s)

/-- `OR1 CY,PSWH.bit` (R932). -/
def execOr1CyPswhBit (bit : BitVec 3) (s : State) : Host.Outcome State Fault Refusal :=
  finish (toCarry (fun c b => c || b) 2 .pswh bit s)

/-- `OR1 CY,/PSWH.bit` (R933). -/
def execOr1CyNotPswhBit (bit : BitVec 3) (s : State) : Host.Outcome State Fault Refusal :=
  finish (toCarry (fun c b => c || !b) 2 .pswh bit s)

/-- `OR1 CY,PSWL.bit` (R934). -/
def execOr1CyPswlBit (bit : BitVec 3) (s : State) : Host.Outcome State Fault Refusal :=
  finish (toCarry (fun c b => c || b) 2 .pswl bit s)

/-- `OR1 CY,/PSWL.bit` (R935). -/
def execOr1CyNotPswlBit (bit : BitVec 3) (s : State) : Host.Outcome State Fault Refusal :=
  finish (toCarry (fun c b => c || !b) 2 .pswl bit s)

/-- `XOR1 CY,saddr.bit` (R936). -/
def execXor1CySaddrBit (off : Byte) (bit : BitVec 3) (s : State) : Host.Outcome State Fault Refusal :=
  finish (toCarry (fun c b => c ^^ b) 3 (.saddr off) bit s)

/-- `XOR1 CY,sfr.bit` (R937). -/
def execXor1CySfrBit (off : Byte) (bit : BitVec 3) (s : State) : Host.Outcome State Fault Refusal :=
  finish (toCarry (fun c b => c ^^ b) 3 (.sfr off) bit s)

/-- `XOR1 CY,A.bit` (R938). -/
def execXor1CyABit (bit : BitVec 3) (s : State) : Host.Outcome State Fault Refusal :=
  finish (toCarry (fun c b => c ^^ b) 2 (.reg s.psw.regA) bit s)

/-- `XOR1 CY,X.bit` (R939). -/
def execXor1CyXBit (bit : BitVec 3) (s : State) : Host.Outcome State Fault Refusal :=
  finish (toCarry (fun c b => c ^^ b) 2 (.reg s.psw.regX) bit s)

/-- `XOR1 CY,PSWH.bit` (R940). -/
def execXor1CyPswhBit (bit : BitVec 3) (s : State) : Host.Outcome State Fault Refusal :=
  finish (toCarry (fun c b => c ^^ b) 2 .pswh bit s)

/-- `XOR1 CY,PSWL.bit` (R941). -/
def execXor1CyPswlBit (bit : BitVec 3) (s : State) : Host.Outcome State Fault Refusal :=
  finish (toCarry (fun c b => c ^^ b) 2 .pswl bit s)

/-- `SET1 saddr.bit` (R942). -/
def execSet1SaddrBit (off : Byte) (bit : BitVec 3) (s : State) : Host.Outcome State Fault Refusal :=
  finish (toBit (fun _ _ => true) 2 (.saddr off) bit s)

/-- `SET1 sfr.bit` (R943). -/
def execSet1SfrBit (off : Byte) (bit : BitVec 3) (s : State) : Host.Outcome State Fault Refusal :=
  finish (toBit (fun _ _ => true) 3 (.sfr off) bit s)

/-- `SET1 A.bit` (R944). -/
def execSet1ABit (bit : BitVec 3) (s : State) : Host.Outcome State Fault Refusal :=
  finish (toBit (fun _ _ => true) 2 (.reg s.psw.regA) bit s)

/-- `SET1 X.bit` (R945). -/
def execSet1XBit (bit : BitVec 3) (s : State) : Host.Outcome State Fault Refusal :=
  finish (toBit (fun _ _ => true) 2 (.reg s.psw.regX) bit s)

/-- `SET1 PSWH.bit` (R946). -/
def execSet1PswhBit (bit : BitVec 3) (s : State) : Host.Outcome State Fault Refusal :=
  finish (toBit (fun _ _ => true) 2 .pswh bit s)

/-- `SET1 PSWL.bit` (R947). -/
def execSet1PswlBit (bit : BitVec 3) (s : State) : Host.Outcome State Fault Refusal :=
  finish (toBit (fun _ _ => true) 2 .pswl bit s)

/-- `SET1 CY` (R948). -/
def execSet1Cy (s : State) : Host.Outcome State Fault Refusal := .next (onCarry (fun _ => true) s)

/-- `CLR1 saddr.bit` (R949). -/
def execClr1SaddrBit (off : Byte) (bit : BitVec 3) (s : State) : Host.Outcome State Fault Refusal :=
  finish (toBit (fun _ _ => false) 2 (.saddr off) bit s)

/-- `CLR1 sfr.bit` (R950). -/
def execClr1SfrBit (off : Byte) (bit : BitVec 3) (s : State) : Host.Outcome State Fault Refusal :=
  finish (toBit (fun _ _ => false) 3 (.sfr off) bit s)

/-- `CLR1 A.bit` (R951). -/
def execClr1ABit (bit : BitVec 3) (s : State) : Host.Outcome State Fault Refusal :=
  finish (toBit (fun _ _ => false) 2 (.reg s.psw.regA) bit s)

/-- `CLR1 X.bit` (R952). -/
def execClr1XBit (bit : BitVec 3) (s : State) : Host.Outcome State Fault Refusal :=
  finish (toBit (fun _ _ => false) 2 (.reg s.psw.regX) bit s)

/-- `CLR1 PSWH.bit` (R953). -/
def execClr1PswhBit (bit : BitVec 3) (s : State) : Host.Outcome State Fault Refusal :=
  finish (toBit (fun _ _ => false) 2 .pswh bit s)

/-- `CLR1 PSWL.bit` (R954). -/
def execClr1PswlBit (bit : BitVec 3) (s : State) : Host.Outcome State Fault Refusal :=
  finish (toBit (fun _ _ => false) 2 .pswl bit s)

/-- `CLR1 CY` (R955). -/
def execClr1Cy (s : State) : Host.Outcome State Fault Refusal := .next (onCarry (fun _ => false) s)

/-- `NOT1 saddr.bit` (R956). -/
def execNot1SaddrBit (off : Byte) (bit : BitVec 3) (s : State) : Host.Outcome State Fault Refusal :=
  finish (toBit (fun _ b => !b) 3 (.saddr off) bit s)

/-- `NOT1 sfr.bit` (R957). -/
def execNot1SfrBit (off : Byte) (bit : BitVec 3) (s : State) : Host.Outcome State Fault Refusal :=
  finish (toBit (fun _ b => !b) 3 (.sfr off) bit s)

/-- `NOT1 A.bit` (R958). -/
def execNot1ABit (bit : BitVec 3) (s : State) : Host.Outcome State Fault Refusal :=
  finish (toBit (fun _ b => !b) 2 (.reg s.psw.regA) bit s)

/-- `NOT1 X.bit` (R959). -/
def execNot1XBit (bit : BitVec 3) (s : State) : Host.Outcome State Fault Refusal :=
  finish (toBit (fun _ b => !b) 2 (.reg s.psw.regX) bit s)

/-- `NOT1 PSWH.bit` (R960). -/
def execNot1PswhBit (bit : BitVec 3) (s : State) : Host.Outcome State Fault Refusal :=
  finish (toBit (fun _ b => !b) 2 .pswh bit s)

/-- `NOT1 PSWL.bit` (R961). -/
def execNot1PswlBit (bit : BitVec 3) (s : State) : Host.Outcome State Fault Refusal :=
  finish (toBit (fun _ b => !b) 2 .pswl bit s)

/-- `NOT1 CY` (R962). -/
def execNot1Cy (s : State) : Host.Outcome State Fault Refusal := .next (onCarry (fun c => !c) s)

end Sys2Proof.Machine
end

