-- ==== Sys2Proof/Machine/Branch.lean ====
section
/-!
DEFINITION. Machine/Branch.lean: BR, the conditional branches, BT, BF, BTCLR, BFSET, DBNZ (R440 to R489).
-/

namespace Sys2Proof.Machine

/-- The bit of an operand is `sense`: what BT, BF, BTCLR and BFSET branch on (R444); not where the operand stops. -/
def bitIs (sense : Bool) (o : ByteOperand) (bit : BitVec 3) (s : State) : Bool :=
  match o.read 0 s.psw s with
  | .ok v => bitOf v bit == sense
  | .error _ => false

/-- The count of an operand is not 0 after counting down: what DBNZ branches on (R488); not where the operand stops. -/
def countsOn (o : ByteOperand) (s : State) : Bool :=
  match o.read 0 s.psw s with
  | .ok v => v - 1#8 != 0#8
  | .error _ => false

/-- BT and BF: branch when the bit is `sense`; nothing is written (R444). -/
def testBit (sense : Bool) (n : Nat) (o : ByteOperand) (bit : BitVec 3) (jdisp : Byte) (s : State) :
    Except Stop State := do
  let v ← o.read 0 s.psw s
  .ok (s.branch n jdisp (bitOf v bit == sense))

/-- BTCLR and BFSET: branch when the bit is `sense`, and only then write it back changed (R444, D28). -/
def testAndWrite (sense : Bool) (n : Nat) (o : ByteOperand) (bit : BitVec 3) (jdisp : Byte) (s : State) :
    Except Stop State := do
  let v ← o.read 0 s.psw s
  if bitOf v bit == sense then do
    let t ← o.write (putBit v bit (!sense)) s.psw s
    .ok (t.branch n jdisp true)
  else .ok (s.branch n jdisp false)

/-- DBNZ: count down, then branch unless the count is 0; no flag (R488, R489). -/
def countDown (n : Nat) (o : ByteOperand) (jdisp : Byte) (s : State) : Except Stop State := do
  let v ← o.read 0 s.psw s
  let t ← o.write (v - 1#8) s.psw s
  .ok (t.branch n jdisp (v - 1#8 != 0#8))

/-- `BR !addr16` (R446). -/
def execBrAddr16 (w : Addr) (s : State) : Host.Outcome State Fault Refusal := .next (s.withPc w)

/-- `BR rp1` (R447). -/
def execBrRp1 (rp1 : PairNo) (s : State) : Host.Outcome State Fault Refusal := .next (s.withPc (readPair s.psw rp1 s))

/-- `BR [rp1]` (R448). -/
def execBrIndRp1 (rp1 : PairNo) (s : State) : Host.Outcome State Fault Refusal := finish do
  let target ← readWord 0 (readPair s.psw rp1 s) s
  .ok (s.withPc target)

/-- `BR $addr16` (R449). -/
def execBrRel (jdisp : Byte) (s : State) : Host.Outcome State Fault Refusal := .next (s.branch 2 jdisp (true))

/-- `BC $addr16` (R450). -/
def execBcRel (jdisp : Byte) (s : State) : Host.Outcome State Fault Refusal := .next (s.branch 2 jdisp (s.psw.cy))

/-- `BNC $addr16` (R451). -/
def execBncRel (jdisp : Byte) (s : State) : Host.Outcome State Fault Refusal := .next (s.branch 2 jdisp (!s.psw.cy))

/-- `BZ $addr16` (R452). -/
def execBzRel (jdisp : Byte) (s : State) : Host.Outcome State Fault Refusal := .next (s.branch 2 jdisp (s.psw.z))

/-- `BNZ $addr16` (R453). -/
def execBnzRel (jdisp : Byte) (s : State) : Host.Outcome State Fault Refusal := .next (s.branch 2 jdisp (!s.psw.z))

/-- `BV $addr16` (R454). -/
def execBvRel (jdisp : Byte) (s : State) : Host.Outcome State Fault Refusal := .next (s.branch 2 jdisp (s.psw.pv))

/-- `BNV $addr16` (R455). -/
def execBnvRel (jdisp : Byte) (s : State) : Host.Outcome State Fault Refusal := .next (s.branch 2 jdisp (!s.psw.pv))

/-- `BN $addr16` (R456). -/
def execBnRel (jdisp : Byte) (s : State) : Host.Outcome State Fault Refusal := .next (s.branch 2 jdisp (s.psw.s))

/-- `BP $addr16` (R457). -/
def execBpRel (jdisp : Byte) (s : State) : Host.Outcome State Fault Refusal := .next (s.branch 2 jdisp (!s.psw.s))

/-- `BGT $addr16` (R458). -/
def execBgtRel (jdisp : Byte) (s : State) : Host.Outcome State Fault Refusal :=
  .next (s.branch 3 jdisp (!((s.psw.pv ^^ s.psw.s) || s.psw.z)))

/-- `BGE $addr16` (R459). -/
def execBgeRel (jdisp : Byte) (s : State) : Host.Outcome State Fault Refusal :=
  .next (s.branch 3 jdisp (!(s.psw.pv ^^ s.psw.s)))

/-- `BLT $addr16` (R460). -/
def execBltRel (jdisp : Byte) (s : State) : Host.Outcome State Fault Refusal :=
  .next (s.branch 3 jdisp (s.psw.pv ^^ s.psw.s))

/-- `BLE $addr16` (R461). -/
def execBleRel (jdisp : Byte) (s : State) : Host.Outcome State Fault Refusal :=
  .next (s.branch 3 jdisp ((s.psw.pv ^^ s.psw.s) || s.psw.z))

/-- `BH $addr16` (R462). -/
def execBhRel (jdisp : Byte) (s : State) : Host.Outcome State Fault Refusal :=
  .next (s.branch 3 jdisp (!(s.psw.z || s.psw.cy)))

/-- `BNH $addr16` (R463). -/
def execBnhRel (jdisp : Byte) (s : State) : Host.Outcome State Fault Refusal :=
  .next (s.branch 3 jdisp (s.psw.z || s.psw.cy))

/-- `BT saddr.bit,$addr16` (R464). -/
def execBtSaddrBitRel (off : Byte) (bit : BitVec 3) (jdisp : Byte) (s : State) : Host.Outcome State Fault Refusal :=
  finish (testBit true 3 (.saddr off) bit jdisp s)

/-- `BT sfr.bit,$addr16` (R465). -/
def execBtSfrBitRel (off : Byte) (bit : BitVec 3) (jdisp : Byte) (s : State) : Host.Outcome State Fault Refusal :=
  finish (testBit true 4 (.sfr off) bit jdisp s)

/-- `BT A.bit,$addr16` (R466). -/
def execBtABitRel (bit : BitVec 3) (jdisp : Byte) (s : State) : Host.Outcome State Fault Refusal :=
  finish (testBit true 3 (.reg s.psw.regA) bit jdisp s)

/-- `BT X.bit,$addr16` (R467). -/
def execBtXBitRel (bit : BitVec 3) (jdisp : Byte) (s : State) : Host.Outcome State Fault Refusal :=
  finish (testBit true 3 (.reg s.psw.regX) bit jdisp s)

/-- `BT PSWH.bit,$addr16` (R468). -/
def execBtPswhBitRel (bit : BitVec 3) (jdisp : Byte) (s : State) : Host.Outcome State Fault Refusal :=
  finish (testBit true 3 .pswh bit jdisp s)

/-- `BT PSWL.bit,$addr16` (R469). -/
def execBtPswlBitRel (bit : BitVec 3) (jdisp : Byte) (s : State) : Host.Outcome State Fault Refusal :=
  finish (testBit true 3 .pswl bit jdisp s)

/-- `BF saddr.bit,$addr16` (R470). -/
def execBfSaddrBitRel (off : Byte) (bit : BitVec 3) (jdisp : Byte) (s : State) : Host.Outcome State Fault Refusal :=
  finish (testBit false 4 (.saddr off) bit jdisp s)

/-- `BF sfr.bit,$addr16` (R471). -/
def execBfSfrBitRel (off : Byte) (bit : BitVec 3) (jdisp : Byte) (s : State) : Host.Outcome State Fault Refusal :=
  finish (testBit false 4 (.sfr off) bit jdisp s)

/-- `BF A.bit,$addr16` (R472). -/
def execBfABitRel (bit : BitVec 3) (jdisp : Byte) (s : State) : Host.Outcome State Fault Refusal :=
  finish (testBit false 3 (.reg s.psw.regA) bit jdisp s)

/-- `BF X.bit,$addr16` (R473). -/
def execBfXBitRel (bit : BitVec 3) (jdisp : Byte) (s : State) : Host.Outcome State Fault Refusal :=
  finish (testBit false 3 (.reg s.psw.regX) bit jdisp s)

/-- `BF PSWH.bit,$addr16` (R474). -/
def execBfPswhBitRel (bit : BitVec 3) (jdisp : Byte) (s : State) : Host.Outcome State Fault Refusal :=
  finish (testBit false 3 .pswh bit jdisp s)

/-- `BF PSWL.bit,$addr16` (R475). -/
def execBfPswlBitRel (bit : BitVec 3) (jdisp : Byte) (s : State) : Host.Outcome State Fault Refusal :=
  finish (testBit false 3 .pswl bit jdisp s)

/-- `BTCLR saddr.bit,$addr16` (R476). -/
def execBtclrSaddrBitRel (off : Byte) (bit : BitVec 3) (jdisp : Byte) (s : State) : Host.Outcome State Fault Refusal :=
  finish (testAndWrite true 4 (.saddr off) bit jdisp s)

/-- `BTCLR sfr.bit,$addr16` (R477). -/
def execBtclrSfrBitRel (off : Byte) (bit : BitVec 3) (jdisp : Byte) (s : State) : Host.Outcome State Fault Refusal :=
  finish (testAndWrite true 4 (.sfr off) bit jdisp s)

/-- `BTCLR A.bit,$addr16` (R478). -/
def execBtclrABitRel (bit : BitVec 3) (jdisp : Byte) (s : State) : Host.Outcome State Fault Refusal :=
  finish (testAndWrite true 3 (.reg s.psw.regA) bit jdisp s)

/-- `BTCLR X.bit,$addr16` (R479). -/
def execBtclrXBitRel (bit : BitVec 3) (jdisp : Byte) (s : State) : Host.Outcome State Fault Refusal :=
  finish (testAndWrite true 3 (.reg s.psw.regX) bit jdisp s)

/-- `BTCLR PSWH.bit,$addr16` (R480). -/
def execBtclrPswhBitRel (bit : BitVec 3) (jdisp : Byte) (s : State) : Host.Outcome State Fault Refusal :=
  finish (testAndWrite true 3 .pswh bit jdisp s)

/-- `BTCLR PSWL.bit,$addr16` (R481). -/
def execBtclrPswlBitRel (bit : BitVec 3) (jdisp : Byte) (s : State) : Host.Outcome State Fault Refusal :=
  finish (testAndWrite true 3 .pswl bit jdisp s)

/-- `BFSET saddr.bit,$addr16` (R482). -/
def execBfsetSaddrBitRel (off : Byte) (bit : BitVec 3) (jdisp : Byte) (s : State) : Host.Outcome State Fault Refusal :=
  finish (testAndWrite false 4 (.saddr off) bit jdisp s)

/-- `BFSET sfr.bit,$addr16` (R483). -/
def execBfsetSfrBitRel (off : Byte) (bit : BitVec 3) (jdisp : Byte) (s : State) : Host.Outcome State Fault Refusal :=
  finish (testAndWrite false 4 (.sfr off) bit jdisp s)

/-- `BFSET A.bit,$addr16` (R484). -/
def execBfsetABitRel (bit : BitVec 3) (jdisp : Byte) (s : State) : Host.Outcome State Fault Refusal :=
  finish (testAndWrite false 3 (.reg s.psw.regA) bit jdisp s)

/-- `BFSET X.bit,$addr16` (R485). -/
def execBfsetXBitRel (bit : BitVec 3) (jdisp : Byte) (s : State) : Host.Outcome State Fault Refusal :=
  finish (testAndWrite false 3 (.reg s.psw.regX) bit jdisp s)

/-- `BFSET PSWH.bit,$addr16` (R486). -/
def execBfsetPswhBitRel (bit : BitVec 3) (jdisp : Byte) (s : State) : Host.Outcome State Fault Refusal :=
  finish (testAndWrite false 3 .pswh bit jdisp s)

/-- `BFSET PSWL.bit,$addr16` (R487). -/
def execBfsetPswlBitRel (bit : BitVec 3) (jdisp : Byte) (s : State) : Host.Outcome State Fault Refusal :=
  finish (testAndWrite false 3 .pswl bit jdisp s)

/-- `DBNZ r2,$addr16` (R488). -/
def execDbnzR2Rel (r2 : CountReg) (jdisp : Byte) (s : State) : Host.Outcome State Fault Refusal :=
  finish (countDown 2 (.reg (countReg s.psw r2)) jdisp s)

/-- `DBNZ saddr,$addr16` (R489). -/
def execDbnzSaddrRel (off : Byte) (jdisp : Byte) (s : State) : Host.Outcome State Fault Refusal :=
  finish (countDown 3 (.saddr off) jdisp s)

end Sys2Proof.Machine
end

