-- ==== Sys2Proof/Machine/DataTransfer.lean ====
section
/-!
DEFINITION. Machine/DataTransfer.lean: MOV, XCH, MOVW, XCHW (R200 to R246) and the moves of SP (R416 to R418).
-/

namespace Sys2Proof.Machine

/-- A byte move: read the source, write the destination, go on (R200). -/
def move (n : Nat) (dst src : ByteOperand) (s : State) : Except Stop State := do
  let v ← src.read 0 s.psw s
  let t ← dst.write v s.psw s
  .ok (t.advance n)

/-- A byte exchange: both are read before either is written; the source is written first (R225 to R231). -/
def exchange (n : Nat) (dst src : ByteOperand) (s : State) : Except Stop State := do
  let a ← src.read 0 s.psw s
  let b ← dst.read 1 s.psw s
  let t ← src.write b s.psw s
  let t ← dst.write a s.psw t
  .ok (t.advance n)

/-- A word move (R200, R232 to R242, R416 to R418). -/
def moveWord (n : Nat) (dst src : WordOperand) (s : State) : Except Stop State := do
  let w ← src.read 0 s.psw s
  let t ← dst.write w s.psw s
  .ok (t.advance n)

/-- A word exchange (R243 to R246). -/
def exchangeWord (n : Nat) (dst src : WordOperand) (s : State) : Except Stop State := do
  let a ← src.read 0 s.psw s
  let b ← dst.read 1 s.psw s
  let t ← src.write b s.psw s
  let t ← dst.write a s.psw t
  .ok (t.advance n)

/-- `MOV A,mem`: the byte at EA, then the pointer update (R210, R211). -/
def loadMem (n : Nat) (m : MemOperand) (s : State) : Except Stop State := do
  let v ← readByte 0 (effectiveAddress m s) s
  .ok ((bump s.psw m (writeReg s.psw s.psw.regA v s)).advance n)

/-- `MOV mem,A`: A to EA, then the pointer update (R212, R213). -/
def storeMem (n : Nat) (m : MemOperand) (s : State) : Except Stop State := do
  let t ← writeByte (effectiveAddress m s) (readReg s.psw s.psw.regA s) s
  .ok ((bump s.psw m t).advance n)

/-- `XCH A,mem`: EA is computed once (R227). -/
def exchangeMem (n : Nat) (m : MemOperand) (s : State) : Except Stop State := do
  let v ← readByte 0 (effectiveAddress m s) s
  let t ← writeByte (effectiveAddress m s) (readReg s.psw s.psw.regA s) s
  .ok ((bump s.psw m (writeReg s.psw s.psw.regA v t)).advance n)

/-- `MOV A,[saddrp]`: the byte the word at saddr(o) points to (R221). -/
def loadIndirect (off : Byte) (s : State) : Except Stop State := do
  let a ← pointerWord 2 off s
  move 2 (.reg s.psw.regA) (.mem a) s

/-- `MOV [saddrp],A` (R222). -/
def storeIndirect (off : Byte) (s : State) : Except Stop State := do
  let a ← pointerWord 2 off s
  move 2 (.mem a) (.reg s.psw.regA) s

/-- `XCH A,[saddrp]` (R230). -/
def exchangeIndirect (off : Byte) (s : State) : Except Stop State := do
  let a ← pointerWord 2 off s
  exchange 2 (.reg s.psw.regA) (.mem a) s

/-- `MOV r1,#byte` (R201). -/
def execMovR1Byte (r1 : Reg8) (byte : Byte) (s : State) : Host.Outcome State Fault Refusal :=
  finish (move 2 (.reg (reg8 r1)) (.imm byte) s)

/-- `MOV saddr,#byte` (R202). -/
def execMovSaddrByte (off : Byte) (byte : Byte) (s : State) : Host.Outcome State Fault Refusal :=
  finish (move 3 (.saddr off) (.imm byte) s)

/-- `MOV sfr,#byte` (R203). -/
def execMovSfrByte (off : Byte) (byte : Byte) (s : State) : Host.Outcome State Fault Refusal :=
  finish (move 3 (.sfr off) (.imm byte) s)

/-- `MOV r,r1` (R204). -/
def execMovRR1 (r : RegNo) (r1 : Reg8) (s : State) : Host.Outcome State Fault Refusal :=
  finish (move 2 (.reg r) (.reg (reg8 r1)) s)

/-- `MOV A,r1` (R205). -/
def execMovAR1 (r1 : Reg8) (s : State) : Host.Outcome State Fault Refusal :=
  finish (move 1 (.reg s.psw.regA) (.reg (reg8 r1)) s)

/-- `MOV A,saddr` (R206). -/
def execMovASaddr (off : Byte) (s : State) : Host.Outcome State Fault Refusal :=
  finish (move 2 (.reg s.psw.regA) (.saddr off) s)

/-- `MOV saddr,A` (R207). -/
def execMovSaddrA (off : Byte) (s : State) : Host.Outcome State Fault Refusal :=
  finish (move 2 (.saddr off) (.reg s.psw.regA) s)

/-- `MOV A,sfr` (R208). -/
def execMovASfr (off : Byte) (s : State) : Host.Outcome State Fault Refusal :=
  finish (move 2 (.reg s.psw.regA) (.sfr off) s)

/-- `MOV sfr,A` (R209). -/
def execMovSfrA (off : Byte) (s : State) : Host.Outcome State Fault Refusal :=
  finish (move 2 (.sfr off) (.reg s.psw.regA) s)

/-- `MOV A,mem` (R210). -/
def execMovAMem1 (m : Ptr) (s : State) : Host.Outcome State Fault Refusal := finish (loadMem 1 m.operand s)

/-- `MOV A,mem` (R211). -/
def execMovAMem (m : MemOperand) (s : State) : Host.Outcome State Fault Refusal := finish (loadMem m.length m s)

/-- `MOV mem,A` (R212). -/
def execMovMemA1 (m : Ptr) (s : State) : Host.Outcome State Fault Refusal := finish (storeMem 1 m.operand s)

/-- `MOV mem,A` (R213). -/
def execMovMemA (m : MemOperand) (s : State) : Host.Outcome State Fault Refusal := finish (storeMem m.length m s)

/-- `MOV PSWL,#byte` (R214). -/
def execMovPswlByte (byte : Byte) (s : State) : Host.Outcome State Fault Refusal :=
  finish (move 3 .pswl (.imm byte) s)

/-- `MOV PSWH,#byte` (R215). -/
def execMovPswhByte (byte : Byte) (s : State) : Host.Outcome State Fault Refusal :=
  finish (move 3 .pswh (.imm byte) s)

/-- `MOV PSWL,A` (R216). -/
def execMovPswlA (s : State) : Host.Outcome State Fault Refusal := finish (move 2 .pswl (.reg s.psw.regA) s)

/-- `MOV PSWH,A` (R217). -/
def execMovPswhA (s : State) : Host.Outcome State Fault Refusal := finish (move 2 .pswh (.reg s.psw.regA) s)

/-- `MOV A,PSWL` (R218). -/
def execMovAPswl (s : State) : Host.Outcome State Fault Refusal := finish (move 2 (.reg s.psw.regA) .pswl s)

/-- `MOV A,PSWH` (R219). -/
def execMovAPswh (s : State) : Host.Outcome State Fault Refusal := finish (move 2 (.reg s.psw.regA) .pswh s)

/-- `MOV saddr,saddr` (R220). -/
def execMovSaddrSaddr (dst : Byte) (src : Byte) (s : State) : Host.Outcome State Fault Refusal :=
  finish (move 3 (.saddr dst) (.saddr src) s)

/-- `MOV A,[saddrp]` (R221). -/
def execMovAIndSaddrp (off : Byte) (s : State) : Host.Outcome State Fault Refusal := finish (loadIndirect off s)

/-- `MOV [saddrp],A` (R222). -/
def execMovIndSaddrpA (off : Byte) (s : State) : Host.Outcome State Fault Refusal := finish (storeIndirect off s)

/-- `MOV A,!addr16` (R223). -/
def execMovAAddr16 (w : Addr) (s : State) : Host.Outcome State Fault Refusal :=
  finish (move 4 (.reg s.psw.regA) (.mem w) s)

/-- `MOV !addr16,A` (R224). -/
def execMovAddr16A (w : Addr) (s : State) : Host.Outcome State Fault Refusal :=
  finish (move 4 (.mem w) (.reg s.psw.regA) s)

/-- `XCH A,r1` (R225). -/
def execXchAR1 (r1 : Reg8) (s : State) : Host.Outcome State Fault Refusal :=
  finish (exchange 1 (.reg s.psw.regA) (.reg (reg8 r1)) s)

/-- `XCH r,r1` (R226). -/
def execXchRR1 (r : RegNo) (r1 : Reg8) (s : State) : Host.Outcome State Fault Refusal :=
  finish (exchange 2 (.reg r) (.reg (reg8 r1)) s)

/-- `XCH A,mem` (R227). -/
def execXchAMem (m : MemOperand) (s : State) : Host.Outcome State Fault Refusal := finish (exchangeMem m.length m s)

/-- `XCH A,saddr` (R228). -/
def execXchASaddr (off : Byte) (s : State) : Host.Outcome State Fault Refusal :=
  finish (exchange 2 (.reg s.psw.regA) (.saddr off) s)

/-- `XCH A,sfr` (R229). -/
def execXchASfr (off : Byte) (s : State) : Host.Outcome State Fault Refusal :=
  finish (exchange 3 (.reg s.psw.regA) (.sfr off) s)

/-- `XCH A,[saddrp]` (R230). -/
def execXchAIndSaddrp (off : Byte) (s : State) : Host.Outcome State Fault Refusal := finish (exchangeIndirect off s)

/-- `XCH saddr,saddr` (R231). -/
def execXchSaddrSaddr (dst : Byte) (src : Byte) (s : State) : Host.Outcome State Fault Refusal :=
  finish (exchange 3 (.saddr dst) (.saddr src) s)

/-- `MOVW rp1,#word` (R232). -/
def execMovwRp1Word (rp1 : PairNo) (w : Word) (s : State) : Host.Outcome State Fault Refusal :=
  finish (moveWord 3 (.pair rp1) (.imm w) s)

/-- `MOVW saddrp,#word` (R233). -/
def execMovwSaddrpWord (off : Byte) (w : Word) (s : State) : Host.Outcome State Fault Refusal :=
  finish (moveWord 4 (.saddrp off) (.imm w) s)

/-- `MOVW sfrp,#word` (R234). -/
def execMovwSfrpWord (off : Byte) (w : Word) (s : State) : Host.Outcome State Fault Refusal :=
  finish (moveWord 4 (.sfrp off) (.imm w) s)

/-- `MOVW rp,rp1` (R235). -/
def execMovwRpRp1 (rp : PairNo) (rp1 : PairNo) (s : State) : Host.Outcome State Fault Refusal :=
  finish (moveWord 2 (.pair rp) (.pair rp1) s)

/-- `MOVW AX,saddrp` (R236). -/
def execMovwAxSaddrp (off : Byte) (s : State) : Host.Outcome State Fault Refusal :=
  finish (moveWord 2 (.pair s.psw.accumulator) (.saddrp off) s)

/-- `MOVW saddrp,AX` (R237). -/
def execMovwSaddrpAx (off : Byte) (s : State) : Host.Outcome State Fault Refusal :=
  finish (moveWord 2 (.saddrp off) (.pair s.psw.accumulator) s)

/-- `MOVW saddrp,saddrp` (R238). -/
def execMovwSaddrpSaddrp (dst : Byte) (src : Byte) (s : State) : Host.Outcome State Fault Refusal :=
  finish (moveWord 3 (.saddrp dst) (.saddrp src) s)

/-- `MOVW AX,sfrp` (R239). -/
def execMovwAxSfrp (off : Byte) (s : State) : Host.Outcome State Fault Refusal :=
  finish (moveWord 2 (.pair s.psw.accumulator) (.sfrp off) s)

/-- `MOVW sfrp,AX` (R240). -/
def execMovwSfrpAx (off : Byte) (s : State) : Host.Outcome State Fault Refusal :=
  finish (moveWord 2 (.sfrp off) (.pair s.psw.accumulator) s)

/-- `MOVW rp1,!addr16` (R241). -/
def execMovwRp1Addr16 (rp1 : PairNo) (w : Addr) (s : State) : Host.Outcome State Fault Refusal :=
  finish (moveWord 4 (.pair rp1) (.mem w) s)

/-- `MOVW !addr16,rp1` (R242). -/
def execMovwAddr16Rp1 (w : Addr) (rp1 : PairNo) (s : State) : Host.Outcome State Fault Refusal :=
  finish (moveWord 4 (.mem w) (.pair rp1) s)

/-- `XCHW AX,saddrp` (R243). -/
def execXchwAxSaddrp (off : Byte) (s : State) : Host.Outcome State Fault Refusal :=
  finish (exchangeWord 2 (.pair s.psw.accumulator) (.saddrp off) s)

/-- `XCHW AX,sfrp` (R244). -/
def execXchwAxSfrp (off : Byte) (s : State) : Host.Outcome State Fault Refusal :=
  finish (exchangeWord 3 (.pair s.psw.accumulator) (.sfrp off) s)

/-- `XCHW saddrp,saddrp` (R245). -/
def execXchwSaddrpSaddrp (dst : Byte) (src : Byte) (s : State) : Host.Outcome State Fault Refusal :=
  finish (exchangeWord 3 (.saddrp dst) (.saddrp src) s)

/-- `XCHW rp,rp1` (R246). -/
def execXchwRpRp1 (rp : PairNo) (rp1 : PairNo) (s : State) : Host.Outcome State Fault Refusal :=
  finish (exchangeWord 2 (.pair rp) (.pair rp1) s)

end Sys2Proof.Machine
end

