-- ==== Sys2Proof/Machine/Interrupts.lean ====
section
/-!
DEFINITION. Machine/Interrupts.lean: the interrupt controller, macroservice, standby wake-up, and the events of the environment
(60_exceptions.md R610 to R655, R700).
-/

namespace Sys2Proof.Machine

/-- The vector address of a source (R602). -/
def Source.vector : Source → Addr
  | .crf00 => 0x001A#16 | .crf01 => 0x001C#16 | .crf10 => 0x001E#16 | .crf11 => 0x0020#16 | .exif0 => 0x0004#16
  | .exif1 => 0x0006#16 | .exif2 => 0x0008#16 | .tmf0 => 0x000E#16 | .tmf1 => 0x0010#16 | .tmf2 => 0x0012#16
  | .sef => 0x0022#16 | .srf => 0x0024#16 | .stf => 0x0026#16 | .adf => 0x0028#16 | .tbf => 0x000C#16

/-- The vector of the external nonmaskable interrupt (R602). -/
def nmiVector : Addr := 0x0002#16

/-- The vector of the watchdog timer (R602). -/
def wdtVector : Addr := 0x000A#16

/-- The vector of BRK (R602). -/
def brkVector : Addr := 0x003E#16

/-- How an accepted request is serviced (R612). -/
inductive ServiceMode where
  | vector | context | macroservice
  deriving DecidableEq, Repr

/-- `req[q]` (R612). -/
def requested (s : State) (q : Source) : Bool := (s.sources.get q).request

/-- `mask[q]` (R612). -/
def masked (s : State) (q : Source) : Bool := (s.sources.get q).masked

/-- `mode[q]`: macroservice, but not while the count has reached 0 and the request is one for the CPU; else context switch or
vectored (R612, R640). -/
def serviceMode (s : State) (q : Source) : ServiceMode :=
  let c := s.sources.get q
  if c.macroservice && !c.ended then .macroservice else if c.context then .context else .vector

/-- `level[q]`: the level of its group (R612, R613). -/
def level (s : State) (q : Source) : BitVec 3 := s.levels.get q.group

/-- The level is a strictly higher priority than every level in service (R610(d)). -/
def aboveService (s : State) (k : BitVec 3) : Bool :=
  s.service.all fun e =>
    match e with
    | .level j => decide (k.toNat < j.toNat)
    | _ => true

/-- R610 (a) to (d): requested, not masked, interrupts enabled (not asked of macroservice, R641), above every level in
service. PRESUMED, log 28. -/
def eligible (s : State) (q : Source) : Bool :=
  requested s q && !masked s q && (s.psw.ie || serviceMode s q == .macroservice) && aboveService s (level s q)

/-- R610(f): the lowest level number, then the lowest default priority number; the list is in that last order. -/
def selectSource (s : State) : List Source → Option Source
  | [] => none
  | q :: l =>
    match selectSource s l with
    | none => if eligible s q then some q else none
    | some r => if eligible s q && decide ((level s q).toNat ≤ (level s r).toNat) then some q else some r

/-- What is taken at an instruction boundary. -/
inductive Event where
  | nmi | wdt
  | maskable (q : Source)
  deriving DecidableEq, Repr

/-- The event is a macroservice transfer, which leaves pc to the program; every other event is an entry. -/
def Event.transfers (e : Event) (s : State) : Bool :=
  match e with
  | .nmi | .wdt => false
  | .maskable q => serviceMode s q == .macroservice

/-- The boundary rule (R615): a nonmaskable request whose own source is not in service, NMI first (R611); else, with no
nonmaskable request pending (R610(e)), the maskable source of R610; else nothing. PRESUMED, log 28. -/
def boundary (s : State) : Option Event :=
  if s.nmiPending && !s.service.contains .nmi then some .nmi
  else if s.wdtPending && !s.service.contains .wdt then some .wdt
  else if s.nmiPending || s.wdtPending then none
  else (selectSource s Source.all).map .maskable

/-- The state with the fields of a source changed by the hardware, after which its control register reads as a free value. -/
def State.updateSource (s : State) (q : Source) (f : SourceState → SourceState) : State :=
  { s with sources := s.sources.set q { f (s.sources.get q) with changed := true } }

/-- `req[q] <- 0` when the request is accepted (R612, R640). -/
def clearRequest (q : Source) (s : State) : State := s.updateSource q fun c => { c with request := false, ended := false }

/-- The count reached 0: the request is now one for the CPU, and the mode falls back where the platform says so (R640, R642). -/
def endMacroservice (q : Source) (s : State) : State :=
  s.updateSource q fun c =>
    { c with request := true, ended := true, macroservice := c.macroservice && !Config.macroFallsBack q.priority }

/-- The address of a byte of a channel record: they lie in the on-chip RAM (R82, R640). -/
def recordAt (off : Byte) : Nat := 0xFE00 + off.toNat

/-- The memory address of a channel record, as the RAM has it now. -/
def recordAddress (ch : MacroChannel) (s : State) : Addr :=
  Word.ofBytes (s.byte (recordAt ch.addrLow)) (s.byte (recordAt ch.addrHigh))

/-- The address after a transfer is stored in the channel record. -/
def setRecordAddress (ch : MacroChannel) (a : Addr) (s : State) : State :=
  (s.setByte (recordAt ch.addrLow) (Word.lo a)).setByte (recordAt ch.addrHigh) (Word.hi a)

/-- The datum of a transfer moves (R640): from the special function register to memory or back, one byte or a word. DESIGN CHOICE, log
31: where an address of it is FFFCH to FFFFH it is a byte of SP or PSW that is read or written. -/
def moveDatum (ch : MacroChannel) (s : State) : Except Stop State := do
  let port : Addr := 0xFF#8 ++ s.byte (recordAt ch.sfr)
  let source := if ch.toMemory then port else recordAddress ch s
  let target := if ch.toMemory then recordAddress ch s else port
  if ch.word then do
    let w ← readWord 1 source s
    writeWord target w s
  else do
    let v ← readByte 1 source s
    writeByte target v s

/-- One macroservice transfer over a channel, in the order of R640: the datum, then the address and the count of the record as the
datum left them; the new count. -/
def transfer (ch : MacroChannel) (s : State) : Except Stop (State × Byte) := do
  let t ← moveDatum ch s
  let t := if ch.increment then setRecordAddress ch (recordAddress ch t + (if ch.word then 2#16 else 1#16)) t else t
  let count := t.byte (recordAt ch.count) - 1#8
  .ok (t.setByte (recordAt ch.count) count, count)

/-- Serving a macroservice request (R640, R642): one transfer; the request is done, unless the count reached 0: then it stays, for
the CPU. DESIGN CHOICE, log 31. -/
def serveMacro (q : Source) (s : State) : Except Stop State :=
  match Config.macroservice q.priority with
  | none => .error (.refusal (.macroservice q.priority))
  | some ch => do
    let (t, count) ← transfer ch s
    .ok (if count = 0#8 then endMacroservice q t else clearRequest q t)

/-- The service of an accepted event (R620, R622, R640): pc is the return address. DESIGN CHOICE, log 29: the level that joins the
service list is the one the source was accepted at, also where a push of the entry changes the level of its group. -/
def serve (e : Event) (s : State) : Except Stop State :=
  match e with
  | .nmi => do
    let t ← enterVector nmiVector s.pc .nmi s
    .ok { t with nmiPending := false, accepted := true }
  | .wdt => do
    let t ← enterVector wdtVector s.pc .wdt s
    .ok { t with wdtPending := false, accepted := true }
  | .maskable q =>
    match serviceMode s q with
    | .macroservice => do
      let t ← serveMacro q s
      .ok { t with accepted := true }
    | .context =>
      .ok { enterBank (s.sources.get q).bank s.pc (.level (level s q)) (clearRequest q s) with accepted := true }
    | .vector => do
      let t ← enterVector q.vector s.pc (.level (level s q)) s
      .ok { clearRequest q t with accepted := true }

/-! ## Standby (R650, R651) -/

/-- Something pending ends the standby mode: in HALT any unmasked request or a nonmaskable one, in STOP the NMI pin only
(R651). PRESUMED, log 25. -/
def wakes (s : State) : Bool :=
  match s.run with
  | .running => false
  | .halted => s.nmiPending || s.wdtPending || Source.all.any fun q => requested s q && !masked s q
  | .stopped => s.nmiPending

/-- What is served before an instruction: what the boundary rule takes; in HALT a macroservice transfer at once, since macroservice
continues there (R650), every other event after the wake-up; in STOP nothing. -/
def due (s : State) : Option Event :=
  match s.run with
  | .running => boundary s
  | .halted => (boundary s).filter fun e => e.transfers s
  | .stopped => none

/-- Leaving the standby mode: RUN, and the two request bits of STBC read 0 (R651). PRESUMED, log 25. -/
def wake (s : State) : State := { s.setByte stbcAddr (s.byte stbcAddr &&& 0xFC#8) with run := .running }

/-- The request served before an instruction ends HALT, as every unmasked request does (R651). -/
def rouse (r : RunState) (t : State) : State := if r = .halted then wake t else t

/-! ## The environment (R86, R611, R630, R655, R700): events that land between steps -/

/-- A device or an INTE pin raises the request of a source (R612, R630); in STOP only NMI and RESET are seen (R650). -/
def raiseRequest (q : Source) (s : State) : State :=
  if s.run = .stopped || requested s q then s else s.updateSource q fun c => { c with request := true }

/-- The NMI pin requests an interrupt (R611). -/
def raiseNmi (s : State) : State := { s with nmiPending := true }

/-- Time passes for the watchdog, which STOP holds (R650, R655). -/
def wdtTick (s : State) : State :=
  if s.wdtRunning && s.run != .stopped then { s with wdtCount := s.wdtCount + 1 } else s

/-- The watchdog times out, which it can only while it runs (R655). -/
def wdtTimeout (s : State) : State :=
  if s.wdtRunning && s.run != .stopped then { s with wdtPending := true } else s

/-- A pulse on RESET (R700 to R704): RAM, ROM and external memory are kept, and bit 3 of STBC; every other SFR, SP and PSW
have their values after reset; pc comes from the vector at 0000H. DESIGN CHOICE, log 7: what was recorded of writes to the external area
FFB0H to FFBFH is dropped with the SFRs. -/
def resetPin (s : State) : Except Stop State := do
  let kept := s.mem.filter fun c => decide (c.1 < 0xFF00)
  let stbc := resetByte stbcAddr &&& 0xF7#8 ||| s.byte stbcAddr &&& 0x08#8
  let t := { State.reset with mem := Memory.set kept stbcAddr stbc, board := s.board, draws := s.draws + 1 }
  let target ← readWord 0 0x0000#16 t
  .ok (t.withPc target)

end Sys2Proof.Machine
end

