-- ==== Sys2Proof/Machine/MulDiv.lean ====
section
/-!
DEFINITION. Machine/MulDiv.lean: MULU, DIVUW, MULUW, DIVUX, INC, DEC, INCW, DECW (R320 to R332).
-/

namespace Sys2Proof.Machine

/-- `MULU r1`: AX receives the product (R321). -/
def mulu (r1 : Reg8) (s : State) : State :=
  let p := s.psw
  let t := (readReg p p.regA s).toNat * (readReg p (reg8 r1) s).toNat
  (writePair p p.accumulator (BitVec.ofNat 16 t) s).advance 2

/-- `DIVUW r1`: AX receives the quotient, r1 the remainder; by zero both are free; r1 = A or X is free (R320(f), R322,
log 23). -/
def divuw (r1 : Reg8) (s : State) : State :=
  let p := s.psw
  let n := readPair p p.accumulator s
  let d := readReg p (reg8 r1) s
  let t :=
    if d = 0#8 then
      writeReg p (reg8 r1) (Config.freeByte s.draws 0) (writePair p p.accumulator (Config.freeWord s.draws 0) s)
    else
      let t := writePair p p.accumulator (BitVec.ofNat 16 (n.toNat / d.toNat)) s
      if reg8 r1 = p.regA ∨ reg8 r1 = p.regX then writeReg p (reg8 r1) (Config.freeByte s.draws 0) t
      else writeReg p (reg8 r1) (BitVec.ofNat 8 (n.toNat % d.toNat)) t
  t.advance 2

/-- `MULUW rp1`: AX receives the high half and rp1 the low half; AX as rp1 is free (R320(f), R323, log 23). -/
def muluw (k : PairNo) (s : State) : State :=
  let p := s.psw
  let t := (readPair p p.accumulator s).toNat * (readPair p k s).toNat
  let u :=
    if k = p.accumulator then writePair p k (Config.freeWord s.draws 0) s
    else writePair p k (BitVec.ofNat 16 t) (writePair p p.accumulator (BitVec.ofNat 16 (t / 0x10000)) s)
  u.advance 2

/-- `DIVUX rp1`: AX:DE receives the quotient, rp1 the remainder; by zero all three are free; AX or DE as rp1 is free
(R320(f), R324, log 23). -/
def divux (k : PairNo) (s : State) : State :=
  let p := s.psw
  let n := (readPair p p.accumulator s).toNat * 0x10000 + (readPair p pairDe s).toNat
  let d := (readPair p k s).toNat
  let t :=
    if d = 0 then
      writePair p k (Config.freeWord s.draws 2)
        (writePair p pairDe (Config.freeWord s.draws 1) (writePair p p.accumulator (Config.freeWord s.draws 0) s))
    else
      let q := n / d
      let t := writePair p pairDe (BitVec.ofNat 16 q) (writePair p p.accumulator (BitVec.ofNat 16 (q / 0x10000)) s)
      if k = p.accumulator ∨ k = pairDe then writePair p k (Config.freeWord s.draws 0) t
      else writePair p k (BitVec.ofNat 16 (n % d)) t
  t.advance 2

/-- INC and DEC of a byte operand: CY is kept (R325 to R328). -/
def stepByte (n : Nat) (up : Bool) (o : ByteOperand) (s : State) : Except Stop State := do
  let v ← o.read 0 s.psw s
  let t ← o.write (if up then v + 1#8 else v - 1#8) s.psw s
  .ok ((t.withPsw (if up then t.psw.inc8 v else t.psw.dec8 v)).advance n)

/-- INCW and DECW of a word operand: no flag (R329 to R332, R419, R420). -/
def stepWord (n : Nat) (up : Bool) (o : WordOperand) (s : State) : Except Stop State := do
  let w ← o.read 0 s.psw s
  let t ← o.write (if up then w + 1#16 else w - 1#16) s.psw s
  .ok (t.advance n)

/-- `MULU r1` (R321). -/
def execMuluR1 (r1 : Reg8) (s : State) : Host.Outcome State Fault Refusal := .next (mulu r1 s)

/-- `DIVUW r1` (R322). -/
def execDivuwR1 (r1 : Reg8) (s : State) : Host.Outcome State Fault Refusal := .next (divuw r1 s)

/-- `MULUW rp1` (R323). -/
def execMuluwRp1 (rp1 : PairNo) (s : State) : Host.Outcome State Fault Refusal := .next (muluw rp1 s)

/-- `DIVUX rp1` (R324). -/
def execDivuxRp1 (rp1 : PairNo) (s : State) : Host.Outcome State Fault Refusal := .next (divux rp1 s)

/-- `INC r1` (R325). -/
def execIncR1 (r1 : Reg8) (s : State) : Host.Outcome State Fault Refusal :=
  finish (stepByte 1 true (.reg (reg8 r1)) s)

/-- `INC saddr` (R326). -/
def execIncSaddr (off : Byte) (s : State) : Host.Outcome State Fault Refusal :=
  finish (stepByte 2 true (.saddr off) s)

/-- `DEC r1` (R327). -/
def execDecR1 (r1 : Reg8) (s : State) : Host.Outcome State Fault Refusal :=
  finish (stepByte 1 false (.reg (reg8 r1)) s)

/-- `DEC saddr` (R328). -/
def execDecSaddr (off : Byte) (s : State) : Host.Outcome State Fault Refusal :=
  finish (stepByte 2 false (.saddr off) s)

/-- `INCW rp2` (R329). -/
def execIncwRp2 (rp2 : PointerPair) (s : State) : Host.Outcome State Fault Refusal :=
  finish (stepWord 1 true (.pair (pointerPair rp2)) s)

/-- `INCW saddrp` (R330). -/
def execIncwSaddrp (off : Byte) (s : State) : Host.Outcome State Fault Refusal :=
  finish (stepWord 3 true (.saddrp off) s)

/-- `DECW rp2` (R331). -/
def execDecwRp2 (rp2 : PointerPair) (s : State) : Host.Outcome State Fault Refusal :=
  finish (stepWord 1 false (.pair (pointerPair rp2)) s)

/-- `DECW saddrp` (R332). -/
def execDecwSaddrp (off : Byte) (s : State) : Host.Outcome State Fault Refusal :=
  finish (stepWord 3 false (.saddrp off) s)

end Sys2Proof.Machine
end

