-- ==== Sys2Proof/Machine/CallReturn.lean ====
section
/-!
DEFINITION. Machine/CallReturn.lean: calls, returns, BRK, push and pop, the stack pointer (R400 to R421).
-/

namespace Sys2Proof.Machine

/-- A call from an instruction of `n` bytes: the address of the next instruction is pushed (R401 to R405). -/
def call (n : Nat) (target : Addr) (s : State) : Except Stop State := do
  let t ← push (s.pc + BitVec.ofNat 16 n) s
  .ok (t.withPc target)

/-- `CALLT [addr5]`: the target is the word at `TPF * 8000H + 0040H + 2 * t`, read after the push (R135, R403). -/
def callTable (t5 : BitVec 5) (s : State) : Except Stop State := do
  let t ← push (s.pc + 1#16) s
  let entry : Addr := (if tpf t then 0x8040#16 else 0x0040#16) + 2#16 * t5.zeroExtend 16
  let target ← readWord 0 entry t
  .ok (t.withPc target)

/-- Pushing pairs in turn on the stack of SP (R409). -/
def pushPairs (p : Psw) : List PairNo → State → Except Stop State
  | [], s => .ok s
  | k :: l, s => do
    let t ← push (readPair p k s) s
    pushPairs p l t

/-- Popping pairs in turn from the stack of SP (R412). -/
def popPairs (p : Psw) : List PairNo → State → Except Stop State
  | [], s => .ok s
  | k :: l, s => do
    let w ← readWord 0 s.sp s
    popPairs p l (writePair p k w (s.withSp (s.sp + 2#16)))

/-- Pushing items in turn on the stack of UP; item 5 is the PSW (R411), both bytes as they are before it is stored. DESIGN CHOICE, log
37. -/
def pushUserItems (p : Psw) : List PairNo → State → Except Stop State
  | [], s => .ok s
  | k :: l, s => do
    let u := readPair p pairUp s
    let t ← pushAt u (if k = 5#3 then s.psw.word else readPair p k s) s
    pushUserItems p l (writePair p pairUp (u - 2#16) t)

/-- Popping items in turn from the stack of UP; item 5 is the PSW (R414, D42), both bytes of which are read before it changes. DESIGN
CHOICE, log 37. -/
def popUserItems (p : Psw) : List PairNo → State → Except Stop State
  | [], s => .ok s
  | k :: l, s => do
    let u := readPair p pairUp s
    let w ← readWord 0 u s
    let t := if k = 5#3 then s.withPsw (s.psw.restore (Word.lo w) (Word.hi w)) else writePair p k w s
    popUserItems p l (writePair p pairUp (u + 2#16) t)

/-- `CALL !addr16` (R401). -/
def execCallAddr16 (w : Addr) (s : State) : Host.Outcome State Fault Refusal := finish (call 3 w s)

/-- `CALLF !addr11` (R402). -/
def execCallfAddr11 (f11 : BitVec 11) (s : State) : Host.Outcome State Fault Refusal :=
  finish (call 2 (0x0800#16 + f11.zeroExtend 16) s)

/-- `CALLT [addr5]` (R403). -/
def execCalltAddr5 (t5 : BitVec 5) (s : State) : Host.Outcome State Fault Refusal := finish (callTable t5 s)

/-- `CALL rp1` (R404). -/
def execCallRp1 (rp1 : PairNo) (s : State) : Host.Outcome State Fault Refusal :=
  finish (call 2 (readPair s.psw rp1 s) s)

/-- `CALL [rp1]` (R405). -/
def execCallIndRp1 (rp1 : PairNo) (s : State) : Host.Outcome State Fault Refusal := finish do
  let target ← readWord 0 (readPair s.psw rp1 s) s
  call 2 target s

/-- `BRK` (R406). -/
def execBrk (s : State) : Host.Outcome State Fault Refusal := finish (enterVector brkVector (s.pc + 1#16) .software s)

/-- `RET` (R407). -/
def execRet (s : State) : Host.Outcome State Fault Refusal := finish do
  let target ← readWord 0 s.sp s
  .ok ((s.withSp (s.sp + 2#16)).withPc target)

/-- `RETI` (R408). -/
def execReti (s : State) : Host.Outcome State Fault Refusal := finish (returnVector s)

/-- `PUSH post` (R409). -/
def execPushPost (post : Byte) (s : State) : Host.Outcome State Fault Refusal := finish do
  let t ← pushPairs s.psw (pushOrder post) s
  .ok (t.advance 2)

/-- `PUSH PSW` (R410). DESIGN CHOICE, log 37: both bytes are those of the PSW before the push, also where the stack lies over the PSW. -/
def execPushPsw (s : State) : Host.Outcome State Fault Refusal := finish do
  let t ← push s.psw.word s
  .ok (t.advance 1)

/-- `PUSHU post` (R411). -/
def execPushuPost (post : Byte) (s : State) : Host.Outcome State Fault Refusal := finish do
  let t ← pushUserItems s.psw (pushOrder post) s
  .ok (t.advance 2)

/-- `POP post` (R412). -/
def execPopPost (post : Byte) (s : State) : Host.Outcome State Fault Refusal := finish do
  let t ← popPairs s.psw (popOrder post) s
  .ok (t.advance 2)

/-- `POP PSW` (R413). DESIGN CHOICE, log 37: both bytes are read before the PSW changes, also where the stack lies over the PSW. -/
def execPopPsw (s : State) : Host.Outcome State Fault Refusal := finish do
  let w ← readWord 0 s.sp s
  .ok (((s.withPsw (s.psw.restore (Word.lo w) (Word.hi w))).withSp (s.sp + 2#16)).advance 1)

/-- `POPU post` (R414). -/
def execPopuPost (post : Byte) (s : State) : Host.Outcome State Fault Refusal := finish do
  let t ← popUserItems s.psw (popOrder post) s
  .ok (t.advance 2)

/-- `MOVW SP,#word` (R416). -/
def execMovwSpWord (w : Word) (s : State) : Host.Outcome State Fault Refusal := finish (moveWord 4 .sp (.imm w) s)

/-- `MOVW SP,AX` (R417). -/
def execMovwSpAx (s : State) : Host.Outcome State Fault Refusal := finish (moveWord 2 .sp (.pair s.psw.accumulator) s)

/-- `MOVW AX,SP` (R418). -/
def execMovwAxSp (s : State) : Host.Outcome State Fault Refusal := finish (moveWord 2 (.pair s.psw.accumulator) .sp s)

/-- `INCW SP` (R419). -/
def execIncwSp (s : State) : Host.Outcome State Fault Refusal := finish (stepWord 2 true .sp s)

/-- `DECW SP` (R420). -/
def execDecwSp (s : State) : Host.Outcome State Fault Refusal := finish (stepWord 2 false .sp s)

end Sys2Proof.Machine
end

