-- ==== Sys2Proof/Machine/Context.lean ====
section
/-!
DEFINITION. Machine/Context.lean: BRKCS, RETCS, MOV STBC, MOV WDM, SWRS, SEL, NOP, EI, DI (R490, R491, R517 to R524).
-/

namespace Sys2Proof.Machine

/-- SEL: the bank and the register set (R520, R521). -/
def select (bank : BitVec 3) (alt : Bool) (s : State) : State :=
  (s.withPsw { s.psw with rbs := bank, rss := alt }).advance 2

/-- `BRKCS RBn` (R490). -/
def execBrkcsRbn (n : BitVec 3) (s : State) : Host.Outcome State Fault Refusal :=
  .next (enterBank n (s.pc + 2#16) .software s)

/-- `RETCS !addr16` (R491). -/
def execRetcsAddr16 (w : Addr) (s : State) : Host.Outcome State Fault Refusal := .next (returnBank w s)

/-- `MOV STBC,#byte` (R517). -/
def execMovStbcByte (check : Byte) (byte : Byte) (s : State) : Host.Outcome State Fault Refusal :=
  let t := (guardedWrite stbcAddr check byte s).advance 4
  .next (if check = ~~~byte then { t with run := standbyOf byte } else t)

/-- `MOV WDM,#byte` (R518). -/
def execMovWdmByte (check : Byte) (byte : Byte) (s : State) : Host.Outcome State Fault Refusal :=
  let t := (guardedWrite wdmAddr check byte s).advance 4
  .next (if check = ~~~byte then { t with wdtRunning := Config.wdtRuns byte, wdtCount := 0 } else t)

/-- `SWRS` (R519). -/
def execSwrs (s : State) : Host.Outcome State Fault Refusal :=
  .next ((s.withPsw { s.psw with rss := !s.psw.rss }).advance 1)

/-- `SEL RBn` (R520). -/
def execSelRbn (n : BitVec 3) (s : State) : Host.Outcome State Fault Refusal := .next (select n false s)

/-- `SEL RBn,ALT` (R521). -/
def execSelRbnAlt (n : BitVec 3) (s : State) : Host.Outcome State Fault Refusal := .next (select n true s)

/-- `NOP` (R522). -/
def execNop (s : State) : Host.Outcome State Fault Refusal := .next (s.advance 1)

/-- `EI` (R523). -/
def execEi (s : State) : Host.Outcome State Fault Refusal := .next ((s.withPsw { s.psw with ie := true }).advance 1)

/-- `DI` (R524). -/
def execDi (s : State) : Host.Outcome State Fault Refusal := .next ((s.withPsw { s.psw with ie := false }).advance 1)

end Sys2Proof.Machine
end

