-- ==== Sys2Proof/Machine/Shift.lean ====
section
/-!
DEFINITION. Machine/Shift.lean: ROR, ROL, RORC, ROLC, SHR, SHL, SHRW, SHLW, ROR4, ROL4, ADJ4 (R340 to R352).
-/

namespace Sys2Proof.Machine

/-- A rotate of r1 by n steps (R340 to R344). -/
def rotate (f : Byte × Bool → Byte × Bool) (r1 : Reg8) (n : BitVec 3) (s : State) : State :=
  let r := repeatStep f n.toNat (readReg s.psw (reg8 r1) s, s.psw.cy)
  ((writeReg s.psw (reg8 r1) r.1 s).withPsw (rotateFlags s.draws n.toNat r s.psw)).advance 2

/-- A shift of r1 by n steps (R340, R345, R346). -/
def shift (f : Byte × Bool → Byte × Bool) (r1 : Reg8) (n : BitVec 3) (s : State) : State :=
  let r := repeatStep f n.toNat (readReg s.psw (reg8 r1) s, s.psw.cy)
  ((writeReg s.psw (reg8 r1) r.1 s).withPsw (shiftFlags s.draws n.toNat r s.psw)).advance 2

/-- A shift of rp1 by n steps (R340, R347, R348). -/
def shiftPair (f : Word × Bool → Word × Bool) (k : PairNo) (n : BitVec 3) (s : State) : State :=
  let r := repeatStep f n.toNat (readPair s.psw k s, s.psw.cy)
  ((writePair s.psw k r.1 s).withPsw (shiftFlags s.draws n.toNat r s.psw)).advance 2

/-- A digit rotate over A and the byte at the address in rp1, which becomes `newByte a m` and A `newAcc a m`, both of the old
values (R349, R350). -/
def digitRotate (newByte newAcc : Byte → Byte → Byte) (k : PairNo) (s : State) : Except Stop State := do
  let a := readReg s.psw s.psw.regA s
  let m ← readByte 0 (readPair s.psw k s) s
  let t ← writeByte (readPair s.psw k s) (newByte a m) s
  .ok ((writeReg s.psw s.psw.regA (newAcc a m) t).advance 2)

/-- The high digit of the first byte over the low digit of the second. -/
def highLow (x y : Byte) : Byte := x.extractLsb' 4 4 ++ y.extractLsb' 0 4

/-- The low digit of the first byte over the high digit of the second. -/
def lowHigh (x y : Byte) : Byte := x.extractLsb' 0 4 ++ y.extractLsb' 4 4

/-- The low digit of the first byte over the low digit of the second. -/
def lowLow (x y : Byte) : Byte := x.extractLsb' 0 4 ++ y.extractLsb' 0 4

/-- The high digit of the first byte over the high digit of the second. -/
def highHigh (x y : Byte) : Byte := x.extractLsb' 4 4 ++ y.extractLsb' 4 4

/-- `ROR r1,n` (R341). -/
def execRorR1N (r1 : Reg8) (n : BitVec 3) (s : State) : Host.Outcome State Fault Refusal :=
  .next (rotate rorStep r1 n s)

/-- `ROL r1,n` (R342). -/
def execRolR1N (r1 : Reg8) (n : BitVec 3) (s : State) : Host.Outcome State Fault Refusal :=
  .next (rotate rolStep r1 n s)

/-- `RORC r1,n` (R343). -/
def execRorcR1N (r1 : Reg8) (n : BitVec 3) (s : State) : Host.Outcome State Fault Refusal :=
  .next (rotate rorcStep r1 n s)

/-- `ROLC r1,n` (R344). -/
def execRolcR1N (r1 : Reg8) (n : BitVec 3) (s : State) : Host.Outcome State Fault Refusal :=
  .next (rotate rolcStep r1 n s)

/-- `SHR r1,n` (R345). -/
def execShrR1N (r1 : Reg8) (n : BitVec 3) (s : State) : Host.Outcome State Fault Refusal :=
  .next (shift shrStep r1 n s)

/-- `SHL r1,n` (R346). -/
def execShlR1N (r1 : Reg8) (n : BitVec 3) (s : State) : Host.Outcome State Fault Refusal :=
  .next (shift shlStep r1 n s)

/-- `SHRW rp1,n` (R347). -/
def execShrwRp1N (rp1 : PairNo) (n : BitVec 3) (s : State) : Host.Outcome State Fault Refusal :=
  .next (shiftPair shrwStep rp1 n s)

/-- `SHLW rp1,n` (R348). -/
def execShlwRp1N (rp1 : PairNo) (n : BitVec 3) (s : State) : Host.Outcome State Fault Refusal :=
  .next (shiftPair shlwStep rp1 n s)

/-- `ROR4 [rp1]` (R349). -/
def execRor4IndRp1 (rp1 : PairNo) (s : State) : Host.Outcome State Fault Refusal :=
  finish (digitRotate (fun a m => lowHigh a m) (fun a m => highLow a m) rp1 s)

/-- `ROL4 [rp1]` (R350). -/
def execRol4IndRp1 (rp1 : PairNo) (s : State) : Host.Outcome State Fault Refusal :=
  finish (digitRotate (fun a m => lowLow m a) (fun a m => highHigh a m) rp1 s)

/-- `ADJ4` (R352). -/
def execAdj4 (s : State) : Host.Outcome State Fault Refusal :=
  let p := s.psw
  let r := adjust4 (readReg p p.regA s) p.cy p.ac p.sub
  .next (((writeReg p p.regA r.1 s).withPsw (p.adjusted r)).advance 1)

end Sys2Proof.Machine
end

