-- ==== Sys2Proof/Machine/Strings.lean ====
section
/-!
DEFINITION. Machine/Strings.lean: the string instructions, one iteration a step (R492 to R516). DEDUCED, log 44.
-/

namespace Sys2Proof.Machine

/-- The end of an iteration (R492(c)): the pointers used move, C counts down, and pc moves on when C is 0 or the end
condition holds, else it stays. `p` is the PSW at the start of this iteration. DESIGN CHOICE, log 44: where the transfer of an iteration
writes PSWL or PSWH (FFFEH, FFFFH), the next iteration, a step of its own, uses the new RSS and RBS. -/
def stringTail (p : Psw) (block up ended : Bool) (s : State) : State :=
  let t := stepPair p pairDe up s
  let t := if block then stepPair p pairHl up t else t
  let c := readReg p p.regC t - 1#8
  let t := writeReg p p.regC c t
  if c == 0#8 || ended then t.advance 2 else t

/-- An iteration of MOVM (R493, R494). -/
def moveMany (up : Bool) (s : State) : Except Stop State := do
  let t ← writeByte (readPair s.psw pairDe s) (readReg s.psw s.psw.regA s) s
  .ok (stringTail s.psw false up false t)

/-- An iteration of MOVBK (R495, R496). -/
def moveBlock (up : Bool) (s : State) : Except Stop State := do
  let v ← readByte 0 (readPair s.psw pairHl s) s
  let t ← writeByte (readPair s.psw pairDe s) v s
  .ok (stringTail s.psw true up false t)

/-- An iteration of XCHM (R497, R498). -/
def exchangeMany (up : Bool) (s : State) : Except Stop State := do
  let x ← readByte 0 (readPair s.psw pairDe s) s
  let t ← writeByte (readPair s.psw pairDe s) (readReg s.psw s.psw.regA s) s
  .ok (stringTail s.psw false up false (writeReg s.psw s.psw.regA x t))

/-- An iteration of XCHBK (R499, R500); the second store goes where HL points after the first. -/
def exchangeBlock (up : Bool) (s : State) : Except Stop State := do
  let x ← readByte 0 (readPair s.psw pairDe s) s
  let y ← readByte 1 (readPair s.psw pairHl s) s
  let t ← writeByte (readPair s.psw pairDe s) y s
  let t ← writeByte (readPair s.psw pairHl t) x t
  .ok (stringTail s.psw true up false t)

/-- An iteration of a compare with A (R501, R502, R505, R506, R509, R510, R513, R514). -/
def compareMany (ends : Psw → Bool) (up : Bool) (s : State) : Except Stop State := do
  let a ← readByte 0 (readPair s.psw pairDe s) s
  let q := AluOp.flags .cmp s.psw.cy a (readReg s.psw s.psw.regA s) s.psw
  .ok (stringTail s.psw false up (ends q) (s.withPsw q))

/-- An iteration of a block compare (R503, R504, R507, R508, R511, R512, R515, R516). -/
def compareBlock (ends : Psw → Bool) (up : Bool) (s : State) : Except Stop State := do
  let a ← readByte 0 (readPair s.psw pairDe s) s
  let b ← readByte 1 (readPair s.psw pairHl s) s
  let q := AluOp.flags .cmp s.psw.cy a b s.psw
  .ok (stringTail s.psw true up (ends q) (s.withPsw q))

/-- `MOVM [DE+],A` (R493). -/
def execMovmInc (s : State) : Host.Outcome State Fault Refusal := finish (moveMany true s)

/-- `MOVM [DE-],A` (R494). -/
def execMovmDec (s : State) : Host.Outcome State Fault Refusal := finish (moveMany false s)

/-- `MOVBK [DE+],[HL+]` (R495). -/
def execMovbkInc (s : State) : Host.Outcome State Fault Refusal := finish (moveBlock true s)

/-- `MOVBK [DE-],[HL-]` (R496). -/
def execMovbkDec (s : State) : Host.Outcome State Fault Refusal := finish (moveBlock false s)

/-- `XCHM [DE+],A` (R497). -/
def execXchmInc (s : State) : Host.Outcome State Fault Refusal := finish (exchangeMany true s)

/-- `XCHM [DE-],A` (R498). -/
def execXchmDec (s : State) : Host.Outcome State Fault Refusal := finish (exchangeMany false s)

/-- `XCHBK [DE+],[HL+]` (R499). -/
def execXchbkInc (s : State) : Host.Outcome State Fault Refusal := finish (exchangeBlock true s)

/-- `XCHBK [DE-],[HL-]` (R500). -/
def execXchbkDec (s : State) : Host.Outcome State Fault Refusal := finish (exchangeBlock false s)

/-- `CMPME [DE+],A` (R501). -/
def execCmpmeInc (s : State) : Host.Outcome State Fault Refusal := finish (compareMany (fun q => !q.z) true s)

/-- `CMPME [DE-],A` (R502). -/
def execCmpmeDec (s : State) : Host.Outcome State Fault Refusal := finish (compareMany (fun q => !q.z) false s)

/-- `CMPBKE [DE+],[HL+]` (R503). -/
def execCmpbkeInc (s : State) : Host.Outcome State Fault Refusal := finish (compareBlock (fun q => !q.z) true s)

/-- `CMPBKE [DE-],[HL-]` (R504). -/
def execCmpbkeDec (s : State) : Host.Outcome State Fault Refusal := finish (compareBlock (fun q => !q.z) false s)

/-- `CMPMNE [DE+],A` (R505). -/
def execCmpmneInc (s : State) : Host.Outcome State Fault Refusal := finish (compareMany (fun q => q.z) true s)

/-- `CMPMNE [DE-],A` (R506). -/
def execCmpmneDec (s : State) : Host.Outcome State Fault Refusal := finish (compareMany (fun q => q.z) false s)

/-- `CMPBKNE [DE+],[HL+]` (R507). -/
def execCmpbkneInc (s : State) : Host.Outcome State Fault Refusal := finish (compareBlock (fun q => q.z) true s)

/-- `CMPBKNE [DE-],[HL-]` (R508). -/
def execCmpbkneDec (s : State) : Host.Outcome State Fault Refusal := finish (compareBlock (fun q => q.z) false s)

/-- `CMPMC [DE+],A` (R509). -/
def execCmpmcInc (s : State) : Host.Outcome State Fault Refusal := finish (compareMany (fun q => !q.cy) true s)

/-- `CMPMC [DE-],A` (R510). -/
def execCmpmcDec (s : State) : Host.Outcome State Fault Refusal := finish (compareMany (fun q => !q.cy) false s)

/-- `CMPBKC [DE+],[HL+]` (R511). -/
def execCmpbkcInc (s : State) : Host.Outcome State Fault Refusal := finish (compareBlock (fun q => !q.cy) true s)

/-- `CMPBKC [DE-],[HL-]` (R512). -/
def execCmpbkcDec (s : State) : Host.Outcome State Fault Refusal := finish (compareBlock (fun q => !q.cy) false s)

/-- `CMPMNC [DE+],A` (R513). -/
def execCmpmncInc (s : State) : Host.Outcome State Fault Refusal := finish (compareMany (fun q => q.cy) true s)

/-- `CMPMNC [DE-],A` (R514). -/
def execCmpmncDec (s : State) : Host.Outcome State Fault Refusal := finish (compareMany (fun q => q.cy) false s)

/-- `CMPBKNC [DE+],[HL+]` (R515). -/
def execCmpbkncInc (s : State) : Host.Outcome State Fault Refusal := finish (compareBlock (fun q => q.cy) true s)

/-- `CMPBKNC [DE-],[HL-]` (R516). -/
def execCmpbkncDec (s : State) : Host.Outcome State Fault Refusal := finish (compareBlock (fun q => q.cy) false s)

end Sys2Proof.Machine
end

