-- ==== Sys2Proof/Machine/Dispatch.lean ====
section
/-!
DEFINITION. Machine/Dispatch.lean: one instruction, by the meaning of its constructor.
-/

namespace Sys2Proof.Machine

/-- The effect of one instruction. -/
def exec (i : Instr) (s : State) : Host.Outcome State Fault Refusal :=
  match i with
  -- Data transfer
  | .movR1Byte r1 byte => Sys2Proof.Machine.execMovR1Byte r1 byte s
  | .movSaddrByte off byte => Sys2Proof.Machine.execMovSaddrByte off byte s
  | .movSfrByte off byte => Sys2Proof.Machine.execMovSfrByte off byte s
  | .movRR1 r r1 => Sys2Proof.Machine.execMovRR1 r r1 s
  | .movAR1 r1 => Sys2Proof.Machine.execMovAR1 r1 s
  | .movASaddr off => Sys2Proof.Machine.execMovASaddr off s
  | .movSaddrA off => Sys2Proof.Machine.execMovSaddrA off s
  | .movASfr off => Sys2Proof.Machine.execMovASfr off s
  | .movSfrA off => Sys2Proof.Machine.execMovSfrA off s
  | .movAMem1 m => Sys2Proof.Machine.execMovAMem1 m s
  | .movAMem m => Sys2Proof.Machine.execMovAMem m s
  | .movMemA1 m => Sys2Proof.Machine.execMovMemA1 m s
  | .movMemA m => Sys2Proof.Machine.execMovMemA m s
  | .movPswlByte byte => Sys2Proof.Machine.execMovPswlByte byte s
  | .movPswhByte byte => Sys2Proof.Machine.execMovPswhByte byte s
  | .movPswlA => Sys2Proof.Machine.execMovPswlA s
  | .movPswhA => Sys2Proof.Machine.execMovPswhA s
  | .movAPswl => Sys2Proof.Machine.execMovAPswl s
  | .movAPswh => Sys2Proof.Machine.execMovAPswh s
  | .movSaddrSaddr dst src => Sys2Proof.Machine.execMovSaddrSaddr dst src s
  | .movAIndSaddrp off => Sys2Proof.Machine.execMovAIndSaddrp off s
  | .movIndSaddrpA off => Sys2Proof.Machine.execMovIndSaddrpA off s
  | .movAAddr16 w => Sys2Proof.Machine.execMovAAddr16 w s
  | .movAddr16A w => Sys2Proof.Machine.execMovAddr16A w s
  | .xchAR1 r1 => Sys2Proof.Machine.execXchAR1 r1 s
  | .xchRR1 r r1 => Sys2Proof.Machine.execXchRR1 r r1 s
  | .xchAMem m => Sys2Proof.Machine.execXchAMem m s
  | .xchASaddr off => Sys2Proof.Machine.execXchASaddr off s
  | .xchASfr off => Sys2Proof.Machine.execXchASfr off s
  | .xchAIndSaddrp off => Sys2Proof.Machine.execXchAIndSaddrp off s
  | .xchSaddrSaddr dst src => Sys2Proof.Machine.execXchSaddrSaddr dst src s
  | .movwRp1Word rp1 w => Sys2Proof.Machine.execMovwRp1Word rp1 w s
  | .movwSaddrpWord off w => Sys2Proof.Machine.execMovwSaddrpWord off w s
  | .movwSfrpWord off w => Sys2Proof.Machine.execMovwSfrpWord off w s
  | .movwRpRp1 rp rp1 => Sys2Proof.Machine.execMovwRpRp1 rp rp1 s
  | .movwAxSaddrp off => Sys2Proof.Machine.execMovwAxSaddrp off s
  | .movwSaddrpAx off => Sys2Proof.Machine.execMovwSaddrpAx off s
  | .movwSaddrpSaddrp dst src => Sys2Proof.Machine.execMovwSaddrpSaddrp dst src s
  | .movwAxSfrp off => Sys2Proof.Machine.execMovwAxSfrp off s
  | .movwSfrpAx off => Sys2Proof.Machine.execMovwSfrpAx off s
  | .movwRp1Addr16 rp1 w => Sys2Proof.Machine.execMovwRp1Addr16 rp1 w s
  | .movwAddr16Rp1 w rp1 => Sys2Proof.Machine.execMovwAddr16Rp1 w rp1 s
  | .xchwAxSaddrp off => Sys2Proof.Machine.execXchwAxSaddrp off s
  | .xchwAxSfrp off => Sys2Proof.Machine.execXchwAxSfrp off s
  | .xchwSaddrpSaddrp dst src => Sys2Proof.Machine.execXchwSaddrpSaddrp dst src s
  | .xchwRpRp1 rp rp1 => Sys2Proof.Machine.execXchwRpRp1 rp rp1 s
  -- 8-bit operations
  | .addAByte byte => Sys2Proof.Machine.execAddAByte byte s
  | .addSaddrByte off byte => Sys2Proof.Machine.execAddSaddrByte off byte s
  | .addSfrByte off byte => Sys2Proof.Machine.execAddSfrByte off byte s
  | .addRR1 r r1 => Sys2Proof.Machine.execAddRR1 r r1 s
  | .addASaddr off => Sys2Proof.Machine.execAddASaddr off s
  | .addASfr off => Sys2Proof.Machine.execAddASfr off s
  | .addSaddrSaddr dst src => Sys2Proof.Machine.execAddSaddrSaddr dst src s
  | .addAMem m => Sys2Proof.Machine.execAddAMem m s
  | .addMemA m => Sys2Proof.Machine.execAddMemA m s
  | .addcAByte byte => Sys2Proof.Machine.execAddcAByte byte s
  | .addcSaddrByte off byte => Sys2Proof.Machine.execAddcSaddrByte off byte s
  | .addcSfrByte off byte => Sys2Proof.Machine.execAddcSfrByte off byte s
  | .addcRR1 r r1 => Sys2Proof.Machine.execAddcRR1 r r1 s
  | .addcASaddr off => Sys2Proof.Machine.execAddcASaddr off s
  | .addcASfr off => Sys2Proof.Machine.execAddcASfr off s
  | .addcSaddrSaddr dst src => Sys2Proof.Machine.execAddcSaddrSaddr dst src s
  | .addcAMem m => Sys2Proof.Machine.execAddcAMem m s
  | .addcMemA m => Sys2Proof.Machine.execAddcMemA m s
  | .subAByte byte => Sys2Proof.Machine.execSubAByte byte s
  | .subSaddrByte off byte => Sys2Proof.Machine.execSubSaddrByte off byte s
  | .subSfrByte off byte => Sys2Proof.Machine.execSubSfrByte off byte s
  | .subRR1 r r1 => Sys2Proof.Machine.execSubRR1 r r1 s
  | .subASaddr off => Sys2Proof.Machine.execSubASaddr off s
  | .subASfr off => Sys2Proof.Machine.execSubASfr off s
  | .subSaddrSaddr dst src => Sys2Proof.Machine.execSubSaddrSaddr dst src s
  | .subAMem m => Sys2Proof.Machine.execSubAMem m s
  | .subMemA m => Sys2Proof.Machine.execSubMemA m s
  | .subcAByte byte => Sys2Proof.Machine.execSubcAByte byte s
  | .subcSaddrByte off byte => Sys2Proof.Machine.execSubcSaddrByte off byte s
  | .subcSfrByte off byte => Sys2Proof.Machine.execSubcSfrByte off byte s
  | .subcRR1 r r1 => Sys2Proof.Machine.execSubcRR1 r r1 s
  | .subcASaddr off => Sys2Proof.Machine.execSubcASaddr off s
  | .subcASfr off => Sys2Proof.Machine.execSubcASfr off s
  | .subcSaddrSaddr dst src => Sys2Proof.Machine.execSubcSaddrSaddr dst src s
  | .subcAMem m => Sys2Proof.Machine.execSubcAMem m s
  | .subcMemA m => Sys2Proof.Machine.execSubcMemA m s
  | .andAByte byte => Sys2Proof.Machine.execAndAByte byte s
  | .andSaddrByte off byte => Sys2Proof.Machine.execAndSaddrByte off byte s
  | .andSfrByte off byte => Sys2Proof.Machine.execAndSfrByte off byte s
  | .andRR1 r r1 => Sys2Proof.Machine.execAndRR1 r r1 s
  | .andASaddr off => Sys2Proof.Machine.execAndASaddr off s
  | .andASfr off => Sys2Proof.Machine.execAndASfr off s
  | .andSaddrSaddr dst src => Sys2Proof.Machine.execAndSaddrSaddr dst src s
  | .andAMem m => Sys2Proof.Machine.execAndAMem m s
  | .andMemA m => Sys2Proof.Machine.execAndMemA m s
  | .xorAByte byte => Sys2Proof.Machine.execXorAByte byte s
  | .xorSaddrByte off byte => Sys2Proof.Machine.execXorSaddrByte off byte s
  | .xorSfrByte off byte => Sys2Proof.Machine.execXorSfrByte off byte s
  | .xorRR1 r r1 => Sys2Proof.Machine.execXorRR1 r r1 s
  | .xorASaddr off => Sys2Proof.Machine.execXorASaddr off s
  | .xorASfr off => Sys2Proof.Machine.execXorASfr off s
  | .xorSaddrSaddr dst src => Sys2Proof.Machine.execXorSaddrSaddr dst src s
  | .xorAMem m => Sys2Proof.Machine.execXorAMem m s
  | .xorMemA m => Sys2Proof.Machine.execXorMemA m s
  | .orAByte byte => Sys2Proof.Machine.execOrAByte byte s
  | .orSaddrByte off byte => Sys2Proof.Machine.execOrSaddrByte off byte s
  | .orSfrByte off byte => Sys2Proof.Machine.execOrSfrByte off byte s
  | .orRR1 r r1 => Sys2Proof.Machine.execOrRR1 r r1 s
  | .orASaddr off => Sys2Proof.Machine.execOrASaddr off s
  | .orASfr off => Sys2Proof.Machine.execOrASfr off s
  | .orSaddrSaddr dst src => Sys2Proof.Machine.execOrSaddrSaddr dst src s
  | .orAMem m => Sys2Proof.Machine.execOrAMem m s
  | .orMemA m => Sys2Proof.Machine.execOrMemA m s
  | .cmpAByte byte => Sys2Proof.Machine.execCmpAByte byte s
  | .cmpSaddrByte off byte => Sys2Proof.Machine.execCmpSaddrByte off byte s
  | .cmpSfrByte off byte => Sys2Proof.Machine.execCmpSfrByte off byte s
  | .cmpRR1 r r1 => Sys2Proof.Machine.execCmpRR1 r r1 s
  | .cmpASaddr off => Sys2Proof.Machine.execCmpASaddr off s
  | .cmpASfr off => Sys2Proof.Machine.execCmpASfr off s
  | .cmpSaddrSaddr dst src => Sys2Proof.Machine.execCmpSaddrSaddr dst src s
  | .cmpAMem m => Sys2Proof.Machine.execCmpAMem m s
  | .cmpMemA m => Sys2Proof.Machine.execCmpMemA m s
  -- 16-bit operations
  | .addwAxWord w => Sys2Proof.Machine.execAddwAxWord w s
  | .addwSaddrpWord off w => Sys2Proof.Machine.execAddwSaddrpWord off w s
  | .addwSfrpWord off w => Sys2Proof.Machine.execAddwSfrpWord off w s
  | .addwRpRp1 rp rp1 => Sys2Proof.Machine.execAddwRpRp1 rp rp1 s
  | .addwAxSaddrp off => Sys2Proof.Machine.execAddwAxSaddrp off s
  | .addwAxSfrp off => Sys2Proof.Machine.execAddwAxSfrp off s
  | .addwSaddrpSaddrp dst src => Sys2Proof.Machine.execAddwSaddrpSaddrp dst src s
  | .subwAxWord w => Sys2Proof.Machine.execSubwAxWord w s
  | .subwSaddrpWord off w => Sys2Proof.Machine.execSubwSaddrpWord off w s
  | .subwSfrpWord off w => Sys2Proof.Machine.execSubwSfrpWord off w s
  | .subwRpRp1 rp rp1 => Sys2Proof.Machine.execSubwRpRp1 rp rp1 s
  | .subwAxSaddrp off => Sys2Proof.Machine.execSubwAxSaddrp off s
  | .subwAxSfrp off => Sys2Proof.Machine.execSubwAxSfrp off s
  | .subwSaddrpSaddrp dst src => Sys2Proof.Machine.execSubwSaddrpSaddrp dst src s
  | .cmpwAxWord w => Sys2Proof.Machine.execCmpwAxWord w s
  | .cmpwSaddrpWord off w => Sys2Proof.Machine.execCmpwSaddrpWord off w s
  | .cmpwSfrpWord off w => Sys2Proof.Machine.execCmpwSfrpWord off w s
  | .cmpwRpRp1 rp rp1 => Sys2Proof.Machine.execCmpwRpRp1 rp rp1 s
  | .cmpwAxSaddrp off => Sys2Proof.Machine.execCmpwAxSaddrp off s
  | .cmpwAxSfrp off => Sys2Proof.Machine.execCmpwAxSfrp off s
  | .cmpwSaddrpSaddrp dst src => Sys2Proof.Machine.execCmpwSaddrpSaddrp dst src s
  -- Multiplication, division, increment, decrement
  | .muluR1 r1 => Sys2Proof.Machine.execMuluR1 r1 s
  | .divuwR1 r1 => Sys2Proof.Machine.execDivuwR1 r1 s
  | .muluwRp1 rp1 => Sys2Proof.Machine.execMuluwRp1 rp1 s
  | .divuxRp1 rp1 => Sys2Proof.Machine.execDivuxRp1 rp1 s
  | .incR1 r1 => Sys2Proof.Machine.execIncR1 r1 s
  | .incSaddr off => Sys2Proof.Machine.execIncSaddr off s
  | .decR1 r1 => Sys2Proof.Machine.execDecR1 r1 s
  | .decSaddr off => Sys2Proof.Machine.execDecSaddr off s
  | .incwRp2 rp2 => Sys2Proof.Machine.execIncwRp2 rp2 s
  | .incwSaddrp off => Sys2Proof.Machine.execIncwSaddrp off s
  | .decwRp2 rp2 => Sys2Proof.Machine.execDecwRp2 rp2 s
  | .decwSaddrp off => Sys2Proof.Machine.execDecwSaddrp off s
  -- Shift, rotate, BCD
  | .rorR1N r1 n => Sys2Proof.Machine.execRorR1N r1 n s
  | .rolR1N r1 n => Sys2Proof.Machine.execRolR1N r1 n s
  | .rorcR1N r1 n => Sys2Proof.Machine.execRorcR1N r1 n s
  | .rolcR1N r1 n => Sys2Proof.Machine.execRolcR1N r1 n s
  | .shrR1N r1 n => Sys2Proof.Machine.execShrR1N r1 n s
  | .shlR1N r1 n => Sys2Proof.Machine.execShlR1N r1 n s
  | .shrwRp1N rp1 n => Sys2Proof.Machine.execShrwRp1N rp1 n s
  | .shlwRp1N rp1 n => Sys2Proof.Machine.execShlwRp1N rp1 n s
  | .ror4IndRp1 rp1 => Sys2Proof.Machine.execRor4IndRp1 rp1 s
  | .rol4IndRp1 rp1 => Sys2Proof.Machine.execRol4IndRp1 rp1 s
  | .adj4 => Sys2Proof.Machine.execAdj4 s
  -- Bit manipulation
  | .mov1CySaddrBit off bit => Sys2Proof.Machine.execMov1CySaddrBit off bit s
  | .mov1CySfrBit off bit => Sys2Proof.Machine.execMov1CySfrBit off bit s
  | .mov1CyABit bit => Sys2Proof.Machine.execMov1CyABit bit s
  | .mov1CyXBit bit => Sys2Proof.Machine.execMov1CyXBit bit s
  | .mov1CyPswhBit bit => Sys2Proof.Machine.execMov1CyPswhBit bit s
  | .mov1CyPswlBit bit => Sys2Proof.Machine.execMov1CyPswlBit bit s
  | .mov1SaddrBitCy off bit => Sys2Proof.Machine.execMov1SaddrBitCy off bit s
  | .mov1SfrBitCy off bit => Sys2Proof.Machine.execMov1SfrBitCy off bit s
  | .mov1ABitCy bit => Sys2Proof.Machine.execMov1ABitCy bit s
  | .mov1XBitCy bit => Sys2Proof.Machine.execMov1XBitCy bit s
  | .mov1PswhBitCy bit => Sys2Proof.Machine.execMov1PswhBitCy bit s
  | .mov1PswlBitCy bit => Sys2Proof.Machine.execMov1PswlBitCy bit s
  | .and1CySaddrBit off bit => Sys2Proof.Machine.execAnd1CySaddrBit off bit s
  | .and1CyNotSaddrBit off bit => Sys2Proof.Machine.execAnd1CyNotSaddrBit off bit s
  | .and1CySfrBit off bit => Sys2Proof.Machine.execAnd1CySfrBit off bit s
  | .and1CyNotSfrBit off bit => Sys2Proof.Machine.execAnd1CyNotSfrBit off bit s
  | .and1CyABit bit => Sys2Proof.Machine.execAnd1CyABit bit s
  | .and1CyNotABit bit => Sys2Proof.Machine.execAnd1CyNotABit bit s
  | .and1CyXBit bit => Sys2Proof.Machine.execAnd1CyXBit bit s
  | .and1CyNotXBit bit => Sys2Proof.Machine.execAnd1CyNotXBit bit s
  | .and1CyPswhBit bit => Sys2Proof.Machine.execAnd1CyPswhBit bit s
  | .and1CyNotPswhBit bit => Sys2Proof.Machine.execAnd1CyNotPswhBit bit s
  | .and1CyPswlBit bit => Sys2Proof.Machine.execAnd1CyPswlBit bit s
  | .and1CyNotPswlBit bit => Sys2Proof.Machine.execAnd1CyNotPswlBit bit s
  | .or1CySaddrBit off bit => Sys2Proof.Machine.execOr1CySaddrBit off bit s
  | .or1CyNotSaddrBit off bit => Sys2Proof.Machine.execOr1CyNotSaddrBit off bit s
  | .or1CySfrBit off bit => Sys2Proof.Machine.execOr1CySfrBit off bit s
  | .or1CyNotSfrBit off bit => Sys2Proof.Machine.execOr1CyNotSfrBit off bit s
  | .or1CyABit bit => Sys2Proof.Machine.execOr1CyABit bit s
  | .or1CyNotABit bit => Sys2Proof.Machine.execOr1CyNotABit bit s
  | .or1CyXBit bit => Sys2Proof.Machine.execOr1CyXBit bit s
  | .or1CyNotXBit bit => Sys2Proof.Machine.execOr1CyNotXBit bit s
  | .or1CyPswhBit bit => Sys2Proof.Machine.execOr1CyPswhBit bit s
  | .or1CyNotPswhBit bit => Sys2Proof.Machine.execOr1CyNotPswhBit bit s
  | .or1CyPswlBit bit => Sys2Proof.Machine.execOr1CyPswlBit bit s
  | .or1CyNotPswlBit bit => Sys2Proof.Machine.execOr1CyNotPswlBit bit s
  | .xor1CySaddrBit off bit => Sys2Proof.Machine.execXor1CySaddrBit off bit s
  | .xor1CySfrBit off bit => Sys2Proof.Machine.execXor1CySfrBit off bit s
  | .xor1CyABit bit => Sys2Proof.Machine.execXor1CyABit bit s
  | .xor1CyXBit bit => Sys2Proof.Machine.execXor1CyXBit bit s
  | .xor1CyPswhBit bit => Sys2Proof.Machine.execXor1CyPswhBit bit s
  | .xor1CyPswlBit bit => Sys2Proof.Machine.execXor1CyPswlBit bit s
  | .set1SaddrBit off bit => Sys2Proof.Machine.execSet1SaddrBit off bit s
  | .set1SfrBit off bit => Sys2Proof.Machine.execSet1SfrBit off bit s
  | .set1ABit bit => Sys2Proof.Machine.execSet1ABit bit s
  | .set1XBit bit => Sys2Proof.Machine.execSet1XBit bit s
  | .set1PswhBit bit => Sys2Proof.Machine.execSet1PswhBit bit s
  | .set1PswlBit bit => Sys2Proof.Machine.execSet1PswlBit bit s
  | .set1Cy => Sys2Proof.Machine.execSet1Cy s
  | .clr1SaddrBit off bit => Sys2Proof.Machine.execClr1SaddrBit off bit s
  | .clr1SfrBit off bit => Sys2Proof.Machine.execClr1SfrBit off bit s
  | .clr1ABit bit => Sys2Proof.Machine.execClr1ABit bit s
  | .clr1XBit bit => Sys2Proof.Machine.execClr1XBit bit s
  | .clr1PswhBit bit => Sys2Proof.Machine.execClr1PswhBit bit s
  | .clr1PswlBit bit => Sys2Proof.Machine.execClr1PswlBit bit s
  | .clr1Cy => Sys2Proof.Machine.execClr1Cy s
  | .not1SaddrBit off bit => Sys2Proof.Machine.execNot1SaddrBit off bit s
  | .not1SfrBit off bit => Sys2Proof.Machine.execNot1SfrBit off bit s
  | .not1ABit bit => Sys2Proof.Machine.execNot1ABit bit s
  | .not1XBit bit => Sys2Proof.Machine.execNot1XBit bit s
  | .not1PswhBit bit => Sys2Proof.Machine.execNot1PswhBit bit s
  | .not1PswlBit bit => Sys2Proof.Machine.execNot1PswlBit bit s
  | .not1Cy => Sys2Proof.Machine.execNot1Cy s
  -- Call, return, stack
  | .callAddr16 w => Sys2Proof.Machine.execCallAddr16 w s
  | .callfAddr11 f11 => Sys2Proof.Machine.execCallfAddr11 f11 s
  | .calltAddr5 t5 => Sys2Proof.Machine.execCalltAddr5 t5 s
  | .callRp1 rp1 => Sys2Proof.Machine.execCallRp1 rp1 s
  | .callIndRp1 rp1 => Sys2Proof.Machine.execCallIndRp1 rp1 s
  | .brk => Sys2Proof.Machine.execBrk s
  | .ret => Sys2Proof.Machine.execRet s
  | .reti => Sys2Proof.Machine.execReti s
  | .pushPost post => Sys2Proof.Machine.execPushPost post s
  | .pushPsw => Sys2Proof.Machine.execPushPsw s
  | .pushuPost post => Sys2Proof.Machine.execPushuPost post s
  | .popPost post => Sys2Proof.Machine.execPopPost post s
  | .popPsw => Sys2Proof.Machine.execPopPsw s
  | .popuPost post => Sys2Proof.Machine.execPopuPost post s
  | .movwSpWord w => Sys2Proof.Machine.execMovwSpWord w s
  | .movwSpAx => Sys2Proof.Machine.execMovwSpAx s
  | .movwAxSp => Sys2Proof.Machine.execMovwAxSp s
  | .incwSp => Sys2Proof.Machine.execIncwSp s
  | .decwSp => Sys2Proof.Machine.execDecwSp s
  -- Branch
  | .brAddr16 w => Sys2Proof.Machine.execBrAddr16 w s
  | .brRp1 rp1 => Sys2Proof.Machine.execBrRp1 rp1 s
  | .brIndRp1 rp1 => Sys2Proof.Machine.execBrIndRp1 rp1 s
  | .brRel jdisp => Sys2Proof.Machine.execBrRel jdisp s
  | .bcRel jdisp => Sys2Proof.Machine.execBcRel jdisp s
  | .bncRel jdisp => Sys2Proof.Machine.execBncRel jdisp s
  | .bzRel jdisp => Sys2Proof.Machine.execBzRel jdisp s
  | .bnzRel jdisp => Sys2Proof.Machine.execBnzRel jdisp s
  | .bvRel jdisp => Sys2Proof.Machine.execBvRel jdisp s
  | .bnvRel jdisp => Sys2Proof.Machine.execBnvRel jdisp s
  | .bnRel jdisp => Sys2Proof.Machine.execBnRel jdisp s
  | .bpRel jdisp => Sys2Proof.Machine.execBpRel jdisp s
  | .bgtRel jdisp => Sys2Proof.Machine.execBgtRel jdisp s
  | .bgeRel jdisp => Sys2Proof.Machine.execBgeRel jdisp s
  | .bltRel jdisp => Sys2Proof.Machine.execBltRel jdisp s
  | .bleRel jdisp => Sys2Proof.Machine.execBleRel jdisp s
  | .bhRel jdisp => Sys2Proof.Machine.execBhRel jdisp s
  | .bnhRel jdisp => Sys2Proof.Machine.execBnhRel jdisp s
  | .btSaddrBitRel off bit jdisp => Sys2Proof.Machine.execBtSaddrBitRel off bit jdisp s
  | .btSfrBitRel off bit jdisp => Sys2Proof.Machine.execBtSfrBitRel off bit jdisp s
  | .btABitRel bit jdisp => Sys2Proof.Machine.execBtABitRel bit jdisp s
  | .btXBitRel bit jdisp => Sys2Proof.Machine.execBtXBitRel bit jdisp s
  | .btPswhBitRel bit jdisp => Sys2Proof.Machine.execBtPswhBitRel bit jdisp s
  | .btPswlBitRel bit jdisp => Sys2Proof.Machine.execBtPswlBitRel bit jdisp s
  | .bfSaddrBitRel off bit jdisp => Sys2Proof.Machine.execBfSaddrBitRel off bit jdisp s
  | .bfSfrBitRel off bit jdisp => Sys2Proof.Machine.execBfSfrBitRel off bit jdisp s
  | .bfABitRel bit jdisp => Sys2Proof.Machine.execBfABitRel bit jdisp s
  | .bfXBitRel bit jdisp => Sys2Proof.Machine.execBfXBitRel bit jdisp s
  | .bfPswhBitRel bit jdisp => Sys2Proof.Machine.execBfPswhBitRel bit jdisp s
  | .bfPswlBitRel bit jdisp => Sys2Proof.Machine.execBfPswlBitRel bit jdisp s
  | .btclrSaddrBitRel off bit jdisp => Sys2Proof.Machine.execBtclrSaddrBitRel off bit jdisp s
  | .btclrSfrBitRel off bit jdisp => Sys2Proof.Machine.execBtclrSfrBitRel off bit jdisp s
  | .btclrABitRel bit jdisp => Sys2Proof.Machine.execBtclrABitRel bit jdisp s
  | .btclrXBitRel bit jdisp => Sys2Proof.Machine.execBtclrXBitRel bit jdisp s
  | .btclrPswhBitRel bit jdisp => Sys2Proof.Machine.execBtclrPswhBitRel bit jdisp s
  | .btclrPswlBitRel bit jdisp => Sys2Proof.Machine.execBtclrPswlBitRel bit jdisp s
  | .bfsetSaddrBitRel off bit jdisp => Sys2Proof.Machine.execBfsetSaddrBitRel off bit jdisp s
  | .bfsetSfrBitRel off bit jdisp => Sys2Proof.Machine.execBfsetSfrBitRel off bit jdisp s
  | .bfsetABitRel bit jdisp => Sys2Proof.Machine.execBfsetABitRel bit jdisp s
  | .bfsetXBitRel bit jdisp => Sys2Proof.Machine.execBfsetXBitRel bit jdisp s
  | .bfsetPswhBitRel bit jdisp => Sys2Proof.Machine.execBfsetPswhBitRel bit jdisp s
  | .bfsetPswlBitRel bit jdisp => Sys2Proof.Machine.execBfsetPswlBitRel bit jdisp s
  | .dbnzR2Rel r2 jdisp => Sys2Proof.Machine.execDbnzR2Rel r2 jdisp s
  | .dbnzSaddrRel off jdisp => Sys2Proof.Machine.execDbnzSaddrRel off jdisp s
  -- Context switch, string, CPU control
  | .brkcsRbn n => Sys2Proof.Machine.execBrkcsRbn n s
  | .retcsAddr16 w => Sys2Proof.Machine.execRetcsAddr16 w s
  | .movmInc => Sys2Proof.Machine.execMovmInc s
  | .movmDec => Sys2Proof.Machine.execMovmDec s
  | .movbkInc => Sys2Proof.Machine.execMovbkInc s
  | .movbkDec => Sys2Proof.Machine.execMovbkDec s
  | .xchmInc => Sys2Proof.Machine.execXchmInc s
  | .xchmDec => Sys2Proof.Machine.execXchmDec s
  | .xchbkInc => Sys2Proof.Machine.execXchbkInc s
  | .xchbkDec => Sys2Proof.Machine.execXchbkDec s
  | .cmpmeInc => Sys2Proof.Machine.execCmpmeInc s
  | .cmpmeDec => Sys2Proof.Machine.execCmpmeDec s
  | .cmpbkeInc => Sys2Proof.Machine.execCmpbkeInc s
  | .cmpbkeDec => Sys2Proof.Machine.execCmpbkeDec s
  | .cmpmneInc => Sys2Proof.Machine.execCmpmneInc s
  | .cmpmneDec => Sys2Proof.Machine.execCmpmneDec s
  | .cmpbkneInc => Sys2Proof.Machine.execCmpbkneInc s
  | .cmpbkneDec => Sys2Proof.Machine.execCmpbkneDec s
  | .cmpmcInc => Sys2Proof.Machine.execCmpmcInc s
  | .cmpmcDec => Sys2Proof.Machine.execCmpmcDec s
  | .cmpbkcInc => Sys2Proof.Machine.execCmpbkcInc s
  | .cmpbkcDec => Sys2Proof.Machine.execCmpbkcDec s
  | .cmpmncInc => Sys2Proof.Machine.execCmpmncInc s
  | .cmpmncDec => Sys2Proof.Machine.execCmpmncDec s
  | .cmpbkncInc => Sys2Proof.Machine.execCmpbkncInc s
  | .cmpbkncDec => Sys2Proof.Machine.execCmpbkncDec s
  | .movStbcByte check byte => Sys2Proof.Machine.execMovStbcByte check byte s
  | .movWdmByte check byte => Sys2Proof.Machine.execMovWdmByte check byte s
  | .swrs => Sys2Proof.Machine.execSwrs s
  | .selRbn n => Sys2Proof.Machine.execSelRbn n s
  | .selRbnAlt n => Sys2Proof.Machine.execSelRbnAlt n s
  | .nop => Sys2Proof.Machine.execNop s
  | .ei => Sys2Proof.Machine.execEi s
  | .di => Sys2Proof.Machine.execDi s

end Sys2Proof.Machine
end

