-- ==== Sys2Proof/Machine/Fetch.lean ====
section
/-!
DEFINITION. Machine/Fetch.lean: fetching an instruction (R91, R112, R121) and what the prefetch queue may keep (R40(a), R112).
-/

namespace Sys2Proof.Machine

/-- The bytes that the prefetch queue may hold of an address although memory has changed, the oldest first. -/
def queued (s : State) (a : Addr) : List Byte := (s.prefetch.filter fun c => c.1 == a.toNat).map (·.2)

/-- One instruction byte: none from FF00H up (R112); of an address that the prefetch queue may hold, freely one of the bytes it has
held or the one in memory (log 41). -/
def fetchByte (a : Addr) (s : State) : Except Stop Byte :=
  if 0xFF00 ≤ a.toNat then .error (.fault (.fetchSfr a.toNat))
  else
    match (queued s a)[Config.prefetchPick s.draws a.toNat]? with
    | some v => .ok v
    | none => readByte 8 a s

/-- Up to `n` bytes from an address on, and why the byte after them cannot be fetched, if it cannot. -/
def fetchBytes : Nat → Addr → State → List Byte × Option Stop
  | 0, _, _ => ([], none)
  | n + 1, a, s =>
    match fetchByte a s with
    | .error e => ([], some e)
    | .ok b =>
      let r := fetchBytes n (a + 1#16) s
      (b :: r.1, r.2)

/-- What is placed in memory from an address on. -/
def placeBytes : Addr → List Byte → State → State
  | _, [], s => s
  | a, b :: l, s => placeBytes (a + 1#16) l (s.setByte a.toNat b)

/-- The addresses whose bytes the queue may hold when a step of `n` bytes at `pc` that refetches nothing ends at `next`: the three
bytes after the instruction when it goes on there, its own bytes too when it is to be executed again (R112, R492). -/
def prefetchWindow (pc next : Addr) (n : Nat) : List Addr :=
  if next = pc then (List.range (n + 3)).map fun j => pc + BitVec.ofNat 16 j
  else if next = pc + BitVec.ofNat 16 n then (List.range 3).map fun j => next + BitVec.ofNat 16 j
  else []

/-- The bytes that may be stale after a step: in the window those that were already, and every byte that the step has overwritten;
none after a taken branch, a call, a return or an entry, which refetches (R112). DESIGN CHOICE, log 41. -/
def stalePrefetch (refetch : Bool) (n : Nat) (s t : State) : List Host.Cell :=
  if refetch then []
  else t.prefetch.filter fun c => (prefetchWindow s.pc t.pc n).any fun a => a.toNat == c.1

/-- How many bytes of the next instruction the queue holds after a step: all, when the instruction is to be executed again. -/
def fetchedAfter (refetch : Bool) (n : Nat) (s t : State) : Nat := if refetch || t.pc != s.pc then 0 else n

/-- The instruction transfers control, so that the next one is fetched anew (R112, R440): every jump, call and return, BRK and BRKCS,
and a branch whose condition holds, wherever it leads. -/
def refetches (i : Instr) (s : State) : Bool :=
  match i with
  | .callAddr16 _ | .callfAddr11 _ | .calltAddr5 _ | .callRp1 _ | .callIndRp1 _ | .brk | .ret | .reti => true
  | .brAddr16 _ | .brRp1 _ | .brIndRp1 _ | .brRel _ | .brkcsRbn _ | .retcsAddr16 _ => true
  | .bcRel _ => s.psw.cy
  | .bncRel _ => !s.psw.cy
  | .bzRel _ => s.psw.z
  | .bnzRel _ => !s.psw.z
  | .bvRel _ => s.psw.pv
  | .bnvRel _ => !s.psw.pv
  | .bnRel _ => s.psw.s
  | .bpRel _ => !s.psw.s
  | .bgtRel _ => !((s.psw.pv ^^ s.psw.s) || s.psw.z)
  | .bgeRel _ => !(s.psw.pv ^^ s.psw.s)
  | .bltRel _ => s.psw.pv ^^ s.psw.s
  | .bleRel _ => (s.psw.pv ^^ s.psw.s) || s.psw.z
  | .bhRel _ => !(s.psw.z || s.psw.cy)
  | .bnhRel _ => s.psw.z || s.psw.cy
  | .btSaddrBitRel off bit _ | .btclrSaddrBitRel off bit _ => bitIs true (.saddr off) bit s
  | .btSfrBitRel off bit _ | .btclrSfrBitRel off bit _ => bitIs true (.sfr off) bit s
  | .btABitRel bit _ | .btclrABitRel bit _ => bitIs true (.reg s.psw.regA) bit s
  | .btXBitRel bit _ | .btclrXBitRel bit _ => bitIs true (.reg s.psw.regX) bit s
  | .btPswhBitRel bit _ | .btclrPswhBitRel bit _ => bitIs true .pswh bit s
  | .btPswlBitRel bit _ | .btclrPswlBitRel bit _ => bitIs true .pswl bit s
  | .bfSaddrBitRel off bit _ | .bfsetSaddrBitRel off bit _ => bitIs false (.saddr off) bit s
  | .bfSfrBitRel off bit _ | .bfsetSfrBitRel off bit _ => bitIs false (.sfr off) bit s
  | .bfABitRel bit _ | .bfsetABitRel bit _ => bitIs false (.reg s.psw.regA) bit s
  | .bfXBitRel bit _ | .bfsetXBitRel bit _ => bitIs false (.reg s.psw.regX) bit s
  | .bfPswhBitRel bit _ | .bfsetPswhBitRel bit _ => bitIs false .pswh bit s
  | .bfPswlBitRel bit _ | .bfsetPswlBitRel bit _ => bitIs false .pswl bit s
  | .dbnzR2Rel r2 _ => countsOn (.reg (countReg s.psw r2)) s
  | .dbnzSaddrRel off _ => countsOn (.saddr off) s
  | _ => false

/-- The state after a step of `n` instruction bytes: the free values move on and the queue is brought up to date. -/
def afterStep (refetch : Bool) (n : Nat) (s t : State) : State :=
  { t with draws := s.draws + 1, prefetch := stalePrefetch refetch n s t, fetched := fetchedAfter refetch n s t }

/-- A step without an instruction: nothing happens but that the free values move on. -/
def idle (s : State) : State := { s with draws := s.draws + 1 }

-- What builds an Instr has no compiled code (see Decode.lean); the kernel evaluates it all the same.
noncomputable section

/-- The instruction at pc and its length, or why there is none (R121, R150). -/
def fetchInstr (s : State) : Except Stop (Instr × Nat) :=
  let r := fetchBytes 5 s.pc s
  match decode r.1 with
  | .ok (i, rest) => .ok (i, r.1.length - rest.length)
  | .error .truncated =>
    match r.2 with
    | some e => .error e
    | none => .error (.refusal .unassigned)
  | .error _ => .error (.refusal .unassigned)

/-- The next instruction, fetched, decoded and executed. -/
def runInstr (s : State) : Host.Outcome State Fault Refusal :=
  match fetchInstr s with
  | .error e => finish (.error e)
  | .ok (i, n) =>
    match exec i s with
    | .next t => .next (afterStep (refetches i s) n s t)
    | o => o

end

end Sys2Proof.Machine
end

