-- ==== Sys2Proof/Machine/Step.lean ====
section
/-!
DEFINITION. Machine/Step.lean: one step of the machine (R18, R615, R616, R650, R651).
-/

namespace Sys2Proof.Machine

-- What builds an Instr has no compiled code (see Decode.lean); the kernel evaluates it all the same.
noncomputable section

/-- One step: what is to be served (R615, R650), which ends HALT (R651); else in HALT and STOP the wake-up or nothing; else the next
instruction. A macroservice transfer leaves the queue what it holds of the instruction at pc. -/
def step (s : State) : Host.Outcome State Fault Refusal :=
  match due s with
  | some e => finish ((serve e s).map fun t => afterStep (!e.transfers s) (if e.transfers s then s.fetched else 0) s (rouse s.run t))
  | none =>
    match s.run with
    | .running => runInstr s
    | .halted | .stopped => .next (idle (if wakes s then wake s else s))

/-- The state with one instruction of the opcode table placed where the next step fetches (log 8). -/
def State.withFetchWord (s : State) (nbits w : Nat) : State :=
  { placeBytes s.pc (tableBytes nbits w) s with prefetch := [], run := .running }

end

end Sys2Proof.Machine
end

