-- ==== Sys2Proof/Safety.lean ====
section
/-!
DEFINITION. Safety.lean: the terms that statements use: what every step keeps, what R112 admits, what an instruction may change, and reference
arithmetic over integers to hold the flags against.
-/

namespace Sys2Proof.Machine

/-! ## What every step keeps -/

/-- The service list holds an interrupt only once one has been accepted (R57). -/
def serviceAccepted (s : State) : Bool := s.accepted || s.service.all fun e => e == .software

/-- The fields of the maskable sources are ones a control register can hold: macroservice for the eleven sources alone (R602, R612),
and a count that reached 0 only with its request (R640). -/
def sourcesLegal (t : Sources) : Bool :=
  Source.all.all fun q =>
    let c := t.get q
    (!c.macroservice || q.canMacro) && (!c.ended || c.request)

/-- What every step keeps: memory in canonical form; the two request bits of STBC say the run state (R650, R651); ISPR records
00H (R57); the read-only low nibbles of PM2 and PM3 keep their reset value (R51, R53); nothing is in service before an
acceptance; the fields of the maskable sources are legal (R612). -/
def State.inv (s : State) : Bool :=
  s.mem.wf && standbyOf (s.byte stbcAddr) == s.run && s.byte 0xFF4A == 0#8 && s.byte 0xFF22 &&& 0x0F#8 == 0x0F#8 &&
    s.byte 0xFF23 &&& 0x0F#8 == 0x0F#8 && serviceAccepted s && sourcesLegal s.sources

/-! ## The programs that R112 admits

R112 says what may follow a store into the prefetch queue, and that a model refuses the program. `step` has the first, as a free
choice (log 41); `admittedStep` has the second as well. -/

/-- The queue may hold a byte that memory no longer holds: one of the next bytes of the instruction stream was stored to, and no
branch, call, return or entry has refetched since (R112, R721). -/
def storedIntoQueue (s : State) : Bool := !s.prefetch.isEmpty

-- What builds an Instr has no compiled code (see Decode.lean); the kernel evaluates it all the same.
noncomputable section

/-- A step with the refusal of R112 (D18, U15): one that leaves a store in the prefetch queue is refused. A store of the byte that is
there already leaves nothing to see, and is admitted (log 41). -/
def admittedStep (s : State) : Host.Outcome State Fault Refusal :=
  match step s with
  | .next t => if storedIntoQueue t then .refused .storeIntoQueue else .next t
  | o => o

/-- The machine with the refusal of R112. -/
def admittedCore : Host.Core := { Sys2Proof.core with step := admittedStep }

end

/-! ## What an instruction may change -/

/-- All of a state but memory, pc, sp, psw, what the control registers of the sources hold and what the prefetch queue may hold is that
of another. -/
def sameRest (s t : State) : Prop :=
  t = { s with mem := t.mem, pc := t.pc, sp := t.sp, psw := t.psw, sources := t.sources, levels := t.levels, prefetch := t.prefetch }

/-- What the prefetch queue may hold is what it could before, and bytes that were overwritten at the listed addresses (R112). -/
def queueGrows (l : List Nat) (s t : State) : Prop := ∃ q, t.prefetch = s.prefetch ++ q ∧ ∀ c ∈ q, c.1 ∈ l

/-- Every byte of memory outside a list of addresses is the same. Registers and SFRs are bytes of memory (R26, R50). -/
def sameBytesBut (l : List Nat) (s t : State) : Prop := ∀ a, a ∉ l → t.byte a = s.byte a

/-- Only the listed addresses may differ. SP is FFFCH and FFFDH, PSW is FFFEH and FFFFH (R30, R34); what the control register of a
source holds changes with its address, and so does the level of its group (R612, R613). -/
structure OnlyCells (l : List Nat) (s t : State) : Prop where
  bytes : sameBytesBut l s t
  pc : t.pc = s.pc
  sp : 0xFFFC ∉ l → 0xFFFD ∉ l → t.sp = s.sp
  psw : 0xFFFE ∉ l → 0xFFFF ∉ l → t.psw = s.psw
  sources : ∀ q : Source, q.control ∉ l → t.sources.get q = s.sources.get q
  levels : ∀ g : Group, (∀ q : Source, q.group = g → q.control ∉ l) → t.levels.get g = s.levels.get g
  queue : queueGrows l s t
  rest : sameRest s t

/-- The addresses of a register pair. -/
def pairCells (p : Psw) (k : PairNo) : List Nat := [regAddr p.rbs (k ++ 0#1), regAddr p.rbs (k ++ 1#1)]

/-- The addresses a byte operand stores to. -/
def ByteOperand.cells (p : Psw) : ByteOperand → List Nat
  | .imm _ => []
  | .reg r => [regAddr p.rbs r]
  | .saddr off => [(Machine.saddr off).toNat]
  | .sfr off => [0xFF00 + off.toNat]
  | .mem a => [a.toNat]
  | .pswl => [0xFFFE]
  | .pswh => [0xFFFF]

/-- The addresses a word operand stores to. -/
def WordOperand.cells (p : Psw) : WordOperand → List Nat
  | .imm _ => []
  | .pair k => pairCells p k
  | .saddrp off => [(Machine.saddr off).toNat, (Machine.saddr off + 1#16).toNat]
  | .sfrp off => [0xFF00 + off.toNat, 0xFF01 + off.toNat]
  | .mem a => [a.toNat, (a + 1#16).toNat]
  | .sp => [0xFFFC, 0xFFFD]

/-- The addresses of the pointer that a memory operand moves (R101). -/
def pointerCells (p : Psw) : MemOperand → List Nat
  | .deInc | .deDec => pairCells p pairDe
  | .hlInc | .hlDec => pairCells p pairHl
  | _ => []

/-- An address that keeps the byte written to it and has no other effect: RAM or external memory (R82, R84). -/
def plain (s : State) (a : Nat) : Bool :=
  match s.place a with
  | .ram | .external .memory => true
  | _ => false

/-- An address that reads as the byte it holds: as `plain`, or on-chip ROM, or external memory that is read-only (R83, R84). -/
def readsAsHeld (s : State) (a : Nat) : Bool :=
  match s.place a with
  | .ram | .rom | .external .memory | .external .readOnly => true
  | _ => false

/-- The word at two addresses, the low byte first (R90). -/
def State.wordAt (s : State) (a : Addr) : Word := Word.ofBytes (s.byte a.toNat) (s.byte (a + 1#16).toNat)

/-- The pc after an instruction of `n` bytes that goes on (R28). -/
def State.after (s : State) (n : Nat) : Addr := BitVec.ofNat 16 (s.pc.toNat + n)

/-- The target of a relative branch of `n` bytes, over the integers (R440). -/
def State.target (s : State) (n : Nat) (jdisp : Byte) : Addr := BitVec.ofInt 16 (s.pc.toNat + n + jdisp.toInt)

/-! ## The encodings as a table of numbers (R140 to R150) -/

/-- The second bytes that are an instruction after a first byte; a first byte that is an instruction by itself takes any. -/
def secondByteAssigned (first second : Byte) : Bool :=
  let x := second.toNat
  match first.toNat with
  | 0x01 => [0x0D, 0x0E, 0x0F, 0x1B, 0x1D, 0x1E, 0x1F, 0x21].contains x || [0x68, 0x98].contains (x / 8 * 8)
  | 0x02 | 0x03 => decide (x < 0xE0)
  | 0x05 =>
    [0x08, 0x18, 0x28, 0x48, 0x58, 0x68, 0x78, 0x88, 0x98, 0xA8, 0xB8, 0xD8, 0xE8].contains (x / 8 * 8) || [0xC8, 0xC9].contains x
  | 0x07 => [0xE8, 0xE9].contains x || (decide (0xF8 ≤ x) && decide (x ≤ 0xFD))
  | 0x08 => decide (x < 0xE0) && !([0x80, 0x90, 0xB0].contains (x / 8 * 8))
  | 0x09 => [0x42, 0x44, 0xF0, 0xF1].contains x || [0x80, 0x90].contains (x / 8 * 8)
  | 0x15 => [0, 1, 4, 5, 6, 7].contains (x % 16) && decide (x < 0x40)
  | 0x16 => memByteAssigned 8 x
  | 0x17 => memByteAssigned 6 x
  | 0x06 => memByteAssigned 5 x
  | 0x0A => memByteAssigned 4 x
  | 0x24 | 0x25 | 0x88 | 0x8A | 0x8F => decide (x % 16 < 8) || decide (x / 8 % 4 = 1)
  | 0x89 | 0x8B | 0x8C | 0x8D | 0x8E => decide (x % 16 < 8)
  | _ => true
where
  /-- The second bytes `D mmm oooo` of a memory mode with so many operands (R147). -/
  memByteAssigned (modes x : Nat) : Bool :=
    decide (x / 16 % 8 < modes) && (x % 16 == 0 || decide (8 ≤ x % 16) || (x % 16 == 4 && decide (x < 0x80)))

/-! ## Reference arithmetic over integers -/

/-- A signed number of `w` bits. -/
def fits (w : Nat) (x : Int) : Bool := decide (-(2 : Int) ^ (w - 1) ≤ x) && decide (x < 2 ^ (w - 1))

/-- An even number of ones, counted over the binary digits of a number. -/
def evenOnes : Nat → Nat → Bool
  | 0, _ => true
  | w + 1, n => (n % 2 == 0) == evenOnes w (n / 2)

/-- The flags of `a + b + c` (R262, R265 to R268, R283); `ac` is given. -/
def addFlags {w : Nat} (a b : BitVec w) (c ac : Bool) (p : Psw) : Psw :=
  let sum := a.toNat + b.toNat + c.toNat
  { p with
    s := decide (2 ^ (w - 1) ≤ sum % 2 ^ w), z := decide (sum % 2 ^ w = 0), ac := ac,
    pv := !fits w (a.toInt + b.toInt + c.toNat), sub := false, cy := decide (2 ^ w ≤ sum) }

/-- The flags of `a - b - c` (R263, R265 to R268, R283); `ac` is given. -/
def subFlags {w : Nat} (a b : BitVec w) (c ac : Bool) (p : Psw) : Psw :=
  let diff : Int := a.toNat - b.toNat - c.toNat
  { p with
    s := decide ((2 : Int) ^ (w - 1) ≤ diff % 2 ^ w), z := decide (diff % 2 ^ w = 0), ac := ac,
    pv := !fits w (a.toInt - b.toInt - c.toNat), sub := true, cy := decide (diff < 0) }

/-- The flags of a logical result (R265 to R268). -/
def logicFlags (r : Byte) (p : Psw) : Psw :=
  { p with s := decide (128 ≤ r.toNat), z := decide (r.toNat = 0), pv := evenOnes 8 r.toNat, sub := false }

/-- The result of an 8-bit operation (R262 to R264), over the integers. -/
def aluValue (op : AluOp) (c : Bool) (a b : Byte) : Byte :=
  match op with
  | .add => BitVec.ofNat 8 (a.toNat + b.toNat)
  | .addc => BitVec.ofNat 8 (a.toNat + b.toNat + c.toNat)
  | .sub | .cmp => BitVec.ofInt 8 (a.toNat - b.toNat)
  | .subc => BitVec.ofInt 8 (a.toNat - b.toNat - c.toNat)
  | .and => a &&& b
  | .xor => a ^^^ b
  | .or => a ||| b

/-- The PSW after an 8-bit operation (R262 to R268), over the integers. -/
def aluPsw (op : AluOp) (c : Bool) (a b : Byte) (p : Psw) : Psw :=
  let x := a.toNat % 16
  let y := b.toNat % 16
  match op with
  | .add => addFlags a b false (decide (16 ≤ x + y)) p
  | .addc => addFlags a b c (decide (16 ≤ x + y + c.toNat)) p
  | .sub | .cmp => subFlags a b false (decide (x < y)) p
  | .subc => subFlags a b c (decide (x < y + c.toNat)) p
  | .and => logicFlags (a &&& b) p
  | .xor => logicFlags (a ^^^ b) p
  | .or => logicFlags (a ||| b) p

/-- The result of a word operation (R281, R282), over the integers. -/
def wordValue (op : WordOp) (a b : Word) : Word :=
  match op with
  | .addw => BitVec.ofNat 16 (a.toNat + b.toNat)
  | .subw | .cmpw => BitVec.ofInt 16 (a.toNat - b.toNat)

/-- The PSW after a word operation (R283): AC is the free bit of the step (log 21). -/
def wordPsw (op : WordOp) (n : Nat) (a b : Word) (p : Psw) : Psw :=
  match op with
  | .addw => addFlags a b false (Config.freeBit n 0) p
  | .subw | .cmpw => subFlags a b false (Config.freeBit n 0) p

/-- The flags of plus one or minus one on a byte, which keep CY (R325, R327). -/
def stepPsw (up : Bool) (a : Byte) (p : Psw) : Psw :=
  let q := if up then addFlags a 1#8 false (decide (a.toNat % 16 = 15)) p
    else subFlags a 1#8 false (decide (a.toNat % 16 = 0)) p
  { q with cy := p.cy }

/-- The value and carry of a rotate or shift of `w` bits by `n`, `v` the value and `c` the carry before, in closed form; the
rotates through carry turn the `w + 1` bits `c : v`. -/
def rotateRightOf {w : Nat} (n : Nat) (v : BitVec w) (c : Bool) : BitVec w × Bool :=
  (v.rotateRight n, if n = 0 then c else v.getLsbD (n - 1))

/-- As `rotateRightOf`, to the left. -/
def rotateLeftOf {w : Nat} (n : Nat) (v : BitVec w) (c : Bool) : BitVec w × Bool :=
  (v.rotateLeft n, if n = 0 then c else v.getLsbD (w - n))

/-- As `rotateRightOf`, through carry. -/
def rotateRightCarryOf {w : Nat} (n : Nat) (v : BitVec w) (c : Bool) : BitVec w × Bool :=
  let x := (BitVec.cons c v).rotateRight n
  (x.setWidth w, x.getLsbD w)

/-- As `rotateRightOf`, to the left through carry. -/
def rotateLeftCarryOf {w : Nat} (n : Nat) (v : BitVec w) (c : Bool) : BitVec w × Bool :=
  let x := (BitVec.cons c v).rotateLeft n
  (x.setWidth w, x.getLsbD w)

/-- As `rotateRightOf`, a shift: zeros come in. -/
def shiftRightOf {w : Nat} (n : Nat) (v : BitVec w) (c : Bool) : BitVec w × Bool :=
  (BitVec.ofNat w (v.toNat / 2 ^ n), if n = 0 then c else v.getLsbD (n - 1))

/-- As `rotateRightOf`, a shift to the left. -/
def shiftLeftOf {w : Nat} (n : Nat) (v : BitVec w) (c : Bool) : BitVec w × Bool :=
  (BitVec.ofNat w (v.toNat * 2 ^ n), if n = 0 then c else v.getLsbD (w - n))

/-- The end of one iteration of a string instruction (R492(c)): `u` is the state after its transfer or comparison, `t` the next
state; `block` says that HL moves too, `up` that pointers rise, `ended` that the end condition of a compare holds. -/
structure EndOfIteration (p : Psw) (block up ended : Bool) (u t : State) : Prop where
  de : readPair p pairDe t = (if up then readPair p pairDe u + 1#16 else readPair p pairDe u - 1#16)
  hl : readPair p pairHl t =
    (if block then (if up then readPair p pairHl u + 1#16 else readPair p pairHl u - 1#16) else readPair p pairHl u)
  c : readReg p p.regC t = readReg p p.regC u - 1#8
  pc : t.pc = (if readReg p p.regC u = 1#8 ∨ ended = true then u.after 2 else u.pc)
  bytes : sameBytesBut (pairCells p pairDe ++ (if block then pairCells p pairHl else []) ++ [regAddr p.rbs p.regC]) u t
  queue : queueGrows (pairCells p pairDe ++ (if block then pairCells p pairHl else []) ++ [regAddr p.rbs p.regC]) u t
  rest : t = { u with mem := t.mem, pc := t.pc, prefetch := t.prefetch }

/-- A packed BCD byte: both digits below ten. -/
def isBcd (v : Byte) : Bool := decide (v.toNat / 16 < 10) && decide (v.toNat % 16 < 10)

/-- The number two packed digits stand for. -/
def bcdValue (v : Byte) : Nat := v.toNat / 16 * 10 + v.toNat % 16

end Sys2Proof.Machine
end

