-- ==== Sys2Proof/Safety/Families.lean ====
section
/-!
DEFINITION. Safety/Families.lean: the instructions of one shape as a relation each, one case per instruction, so that one statement
names them all. `p` is the PSW at the start of the instruction, through which the functional names are read (R24).
-/

namespace Sys2Proof.Machine

/-- `MOV` of a byte: destination and source (R201 to R224). -/
inductive ByteMove (p : Psw) : Instr → ByteOperand → ByteOperand → Prop where
  | movR1Byte (r1 : Reg8) (byte : Byte) : ByteMove p (.movR1Byte r1 byte) (.reg (reg8 r1)) (.imm byte)
  | movSaddrByte (off : Byte) (byte : Byte) : ByteMove p (.movSaddrByte off byte) (.saddr off) (.imm byte)
  | movSfrByte (off : Byte) (byte : Byte) : ByteMove p (.movSfrByte off byte) (.sfr off) (.imm byte)
  | movRR1 (r : RegNo) (r1 : Reg8) : ByteMove p (.movRR1 r r1) (.reg r) (.reg (reg8 r1))
  | movAR1 (r1 : Reg8) : ByteMove p (.movAR1 r1) (.reg p.regA) (.reg (reg8 r1))
  | movASaddr (off : Byte) : ByteMove p (.movASaddr off) (.reg p.regA) (.saddr off)
  | movSaddrA (off : Byte) : ByteMove p (.movSaddrA off) (.saddr off) (.reg p.regA)
  | movASfr (off : Byte) : ByteMove p (.movASfr off) (.reg p.regA) (.sfr off)
  | movSfrA (off : Byte) : ByteMove p (.movSfrA off) (.sfr off) (.reg p.regA)
  | movPswlByte (byte : Byte) : ByteMove p (.movPswlByte byte) .pswl (.imm byte)
  | movPswhByte (byte : Byte) : ByteMove p (.movPswhByte byte) .pswh (.imm byte)
  | movPswlA : ByteMove p .movPswlA .pswl (.reg p.regA)
  | movPswhA : ByteMove p .movPswhA .pswh (.reg p.regA)
  | movAPswl : ByteMove p .movAPswl (.reg p.regA) .pswl
  | movAPswh : ByteMove p .movAPswh (.reg p.regA) .pswh
  | movSaddrSaddr (dst : Byte) (src : Byte) : ByteMove p (.movSaddrSaddr dst src) (.saddr dst) (.saddr src)
  | movAAddr16 (w : Addr) : ByteMove p (.movAAddr16 w) (.reg p.regA) (.mem w)
  | movAddr16A (w : Addr) : ByteMove p (.movAddr16A w) (.mem w) (.reg p.regA)

/-- `XCH`: first and second operand (R225 to R231). -/
inductive ByteExchange (p : Psw) : Instr → ByteOperand → ByteOperand → Prop where
  | xchAR1 (r1 : Reg8) : ByteExchange p (.xchAR1 r1) (.reg p.regA) (.reg (reg8 r1))
  | xchRR1 (r : RegNo) (r1 : Reg8) : ByteExchange p (.xchRR1 r r1) (.reg r) (.reg (reg8 r1))
  | xchASaddr (off : Byte) : ByteExchange p (.xchASaddr off) (.reg p.regA) (.saddr off)
  | xchASfr (off : Byte) : ByteExchange p (.xchASfr off) (.reg p.regA) (.sfr off)
  | xchSaddrSaddr (dst : Byte) (src : Byte) : ByteExchange p (.xchSaddrSaddr dst src) (.saddr dst) (.saddr src)

/-- `MOVW`: destination and source (R232 to R242, R416 to R418). -/
inductive WordMove (p : Psw) : Instr → WordOperand → WordOperand → Prop where
  | movwRp1Word (rp1 : PairNo) (w : Word) : WordMove p (.movwRp1Word rp1 w) (.pair rp1) (.imm w)
  | movwSaddrpWord (off : Byte) (w : Word) : WordMove p (.movwSaddrpWord off w) (.saddrp off) (.imm w)
  | movwSfrpWord (off : Byte) (w : Word) : WordMove p (.movwSfrpWord off w) (.sfrp off) (.imm w)
  | movwRpRp1 (rp : PairNo) (rp1 : PairNo) : WordMove p (.movwRpRp1 rp rp1) (.pair rp) (.pair rp1)
  | movwAxSaddrp (off : Byte) : WordMove p (.movwAxSaddrp off) (.pair p.accumulator) (.saddrp off)
  | movwSaddrpAx (off : Byte) : WordMove p (.movwSaddrpAx off) (.saddrp off) (.pair p.accumulator)
  | movwSaddrpSaddrp (dst : Byte) (src : Byte) : WordMove p (.movwSaddrpSaddrp dst src) (.saddrp dst) (.saddrp src)
  | movwAxSfrp (off : Byte) : WordMove p (.movwAxSfrp off) (.pair p.accumulator) (.sfrp off)
  | movwSfrpAx (off : Byte) : WordMove p (.movwSfrpAx off) (.sfrp off) (.pair p.accumulator)
  | movwRp1Addr16 (rp1 : PairNo) (w : Addr) : WordMove p (.movwRp1Addr16 rp1 w) (.pair rp1) (.mem w)
  | movwAddr16Rp1 (w : Addr) (rp1 : PairNo) : WordMove p (.movwAddr16Rp1 w rp1) (.mem w) (.pair rp1)
  | movwSpWord (w : Word) : WordMove p (.movwSpWord w) .sp (.imm w)
  | movwSpAx : WordMove p .movwSpAx .sp (.pair p.accumulator)
  | movwAxSp : WordMove p .movwAxSp (.pair p.accumulator) .sp

/-- `XCHW`: first and second operand (R243 to R246). -/
inductive WordExchange (p : Psw) : Instr → WordOperand → WordOperand → Prop where
  | xchwAxSaddrp (off : Byte) : WordExchange p (.xchwAxSaddrp off) (.pair p.accumulator) (.saddrp off)
  | xchwAxSfrp (off : Byte) : WordExchange p (.xchwAxSfrp off) (.pair p.accumulator) (.sfrp off)
  | xchwSaddrpSaddrp (dst : Byte) (src : Byte) : WordExchange p (.xchwSaddrpSaddrp dst src) (.saddrp dst) (.saddrp src)
  | xchwRpRp1 (rp : PairNo) (rp1 : PairNo) : WordExchange p (.xchwRpRp1 rp rp1) (.pair rp) (.pair rp1)

/-- `MOV A,mem` (R210, R211). -/
inductive MemLoad : Instr → MemOperand → Prop where
  | movAMem1 (m : Ptr) : MemLoad (.movAMem1 m) m.operand
  | movAMem (m : MemOperand) : MemLoad (.movAMem m) m

/-- `MOV mem,A` (R212, R213). -/
inductive MemStore : Instr → MemOperand → Prop where
  | movMemA1 (m : Ptr) : MemStore (.movMemA1 m) m.operand
  | movMemA (m : MemOperand) : MemStore (.movMemA m) m

/-- `XCH A,mem` (R227). -/
inductive MemExchange : Instr → MemOperand → Prop where
  | xchAMem (m : MemOperand) : MemExchange (.xchAMem m) m

/-- The 8-bit operations without a `mem` operand: operation, first and second operand (R260). -/
inductive ByteArith (p : Psw) : Instr → AluOp → ByteOperand → ByteOperand → Prop where
  | addAByte (byte : Byte) : ByteArith p (.addAByte byte) .add (.reg p.regA) (.imm byte)
  | addSaddrByte (off : Byte) (byte : Byte) : ByteArith p (.addSaddrByte off byte) .add (.saddr off) (.imm byte)
  | addSfrByte (off : Byte) (byte : Byte) : ByteArith p (.addSfrByte off byte) .add (.sfr off) (.imm byte)
  | addRR1 (r : RegNo) (r1 : Reg8) : ByteArith p (.addRR1 r r1) .add (.reg r) (.reg (reg8 r1))
  | addASaddr (off : Byte) : ByteArith p (.addASaddr off) .add (.reg p.regA) (.saddr off)
  | addASfr (off : Byte) : ByteArith p (.addASfr off) .add (.reg p.regA) (.sfr off)
  | addSaddrSaddr (dst : Byte) (src : Byte) : ByteArith p (.addSaddrSaddr dst src) .add (.saddr dst) (.saddr src)
  | addcAByte (byte : Byte) : ByteArith p (.addcAByte byte) .addc (.reg p.regA) (.imm byte)
  | addcSaddrByte (off : Byte) (byte : Byte) : ByteArith p (.addcSaddrByte off byte) .addc (.saddr off) (.imm byte)
  | addcSfrByte (off : Byte) (byte : Byte) : ByteArith p (.addcSfrByte off byte) .addc (.sfr off) (.imm byte)
  | addcRR1 (r : RegNo) (r1 : Reg8) : ByteArith p (.addcRR1 r r1) .addc (.reg r) (.reg (reg8 r1))
  | addcASaddr (off : Byte) : ByteArith p (.addcASaddr off) .addc (.reg p.regA) (.saddr off)
  | addcASfr (off : Byte) : ByteArith p (.addcASfr off) .addc (.reg p.regA) (.sfr off)
  | addcSaddrSaddr (dst : Byte) (src : Byte) : ByteArith p (.addcSaddrSaddr dst src) .addc (.saddr dst) (.saddr src)
  | subAByte (byte : Byte) : ByteArith p (.subAByte byte) .sub (.reg p.regA) (.imm byte)
  | subSaddrByte (off : Byte) (byte : Byte) : ByteArith p (.subSaddrByte off byte) .sub (.saddr off) (.imm byte)
  | subSfrByte (off : Byte) (byte : Byte) : ByteArith p (.subSfrByte off byte) .sub (.sfr off) (.imm byte)
  | subRR1 (r : RegNo) (r1 : Reg8) : ByteArith p (.subRR1 r r1) .sub (.reg r) (.reg (reg8 r1))
  | subASaddr (off : Byte) : ByteArith p (.subASaddr off) .sub (.reg p.regA) (.saddr off)
  | subASfr (off : Byte) : ByteArith p (.subASfr off) .sub (.reg p.regA) (.sfr off)
  | subSaddrSaddr (dst : Byte) (src : Byte) : ByteArith p (.subSaddrSaddr dst src) .sub (.saddr dst) (.saddr src)
  | subcAByte (byte : Byte) : ByteArith p (.subcAByte byte) .subc (.reg p.regA) (.imm byte)
  | subcSaddrByte (off : Byte) (byte : Byte) : ByteArith p (.subcSaddrByte off byte) .subc (.saddr off) (.imm byte)
  | subcSfrByte (off : Byte) (byte : Byte) : ByteArith p (.subcSfrByte off byte) .subc (.sfr off) (.imm byte)
  | subcRR1 (r : RegNo) (r1 : Reg8) : ByteArith p (.subcRR1 r r1) .subc (.reg r) (.reg (reg8 r1))
  | subcASaddr (off : Byte) : ByteArith p (.subcASaddr off) .subc (.reg p.regA) (.saddr off)
  | subcASfr (off : Byte) : ByteArith p (.subcASfr off) .subc (.reg p.regA) (.sfr off)
  | subcSaddrSaddr (dst : Byte) (src : Byte) : ByteArith p (.subcSaddrSaddr dst src) .subc (.saddr dst) (.saddr src)
  | andAByte (byte : Byte) : ByteArith p (.andAByte byte) .and (.reg p.regA) (.imm byte)
  | andSaddrByte (off : Byte) (byte : Byte) : ByteArith p (.andSaddrByte off byte) .and (.saddr off) (.imm byte)
  | andSfrByte (off : Byte) (byte : Byte) : ByteArith p (.andSfrByte off byte) .and (.sfr off) (.imm byte)
  | andRR1 (r : RegNo) (r1 : Reg8) : ByteArith p (.andRR1 r r1) .and (.reg r) (.reg (reg8 r1))
  | andASaddr (off : Byte) : ByteArith p (.andASaddr off) .and (.reg p.regA) (.saddr off)
  | andASfr (off : Byte) : ByteArith p (.andASfr off) .and (.reg p.regA) (.sfr off)
  | andSaddrSaddr (dst : Byte) (src : Byte) : ByteArith p (.andSaddrSaddr dst src) .and (.saddr dst) (.saddr src)
  | xorAByte (byte : Byte) : ByteArith p (.xorAByte byte) .xor (.reg p.regA) (.imm byte)
  | xorSaddrByte (off : Byte) (byte : Byte) : ByteArith p (.xorSaddrByte off byte) .xor (.saddr off) (.imm byte)
  | xorSfrByte (off : Byte) (byte : Byte) : ByteArith p (.xorSfrByte off byte) .xor (.sfr off) (.imm byte)
  | xorRR1 (r : RegNo) (r1 : Reg8) : ByteArith p (.xorRR1 r r1) .xor (.reg r) (.reg (reg8 r1))
  | xorASaddr (off : Byte) : ByteArith p (.xorASaddr off) .xor (.reg p.regA) (.saddr off)
  | xorASfr (off : Byte) : ByteArith p (.xorASfr off) .xor (.reg p.regA) (.sfr off)
  | xorSaddrSaddr (dst : Byte) (src : Byte) : ByteArith p (.xorSaddrSaddr dst src) .xor (.saddr dst) (.saddr src)
  | orAByte (byte : Byte) : ByteArith p (.orAByte byte) .or (.reg p.regA) (.imm byte)
  | orSaddrByte (off : Byte) (byte : Byte) : ByteArith p (.orSaddrByte off byte) .or (.saddr off) (.imm byte)
  | orSfrByte (off : Byte) (byte : Byte) : ByteArith p (.orSfrByte off byte) .or (.sfr off) (.imm byte)
  | orRR1 (r : RegNo) (r1 : Reg8) : ByteArith p (.orRR1 r r1) .or (.reg r) (.reg (reg8 r1))
  | orASaddr (off : Byte) : ByteArith p (.orASaddr off) .or (.reg p.regA) (.saddr off)
  | orASfr (off : Byte) : ByteArith p (.orASfr off) .or (.reg p.regA) (.sfr off)
  | orSaddrSaddr (dst : Byte) (src : Byte) : ByteArith p (.orSaddrSaddr dst src) .or (.saddr dst) (.saddr src)
  | cmpAByte (byte : Byte) : ByteArith p (.cmpAByte byte) .cmp (.reg p.regA) (.imm byte)
  | cmpSaddrByte (off : Byte) (byte : Byte) : ByteArith p (.cmpSaddrByte off byte) .cmp (.saddr off) (.imm byte)
  | cmpSfrByte (off : Byte) (byte : Byte) : ByteArith p (.cmpSfrByte off byte) .cmp (.sfr off) (.imm byte)
  | cmpRR1 (r : RegNo) (r1 : Reg8) : ByteArith p (.cmpRR1 r r1) .cmp (.reg r) (.reg (reg8 r1))
  | cmpASaddr (off : Byte) : ByteArith p (.cmpASaddr off) .cmp (.reg p.regA) (.saddr off)
  | cmpASfr (off : Byte) : ByteArith p (.cmpASfr off) .cmp (.reg p.regA) (.sfr off)
  | cmpSaddrSaddr (dst : Byte) (src : Byte) : ByteArith p (.cmpSaddrSaddr dst src) .cmp (.saddr dst) (.saddr src)

/-- The 8-bit operations with a `mem` operand: operation, whether memory is the first operand, the operand (R260, R269). -/
inductive MemArith : Instr → AluOp → Bool → MemOperand → Prop where
  | addAMem (m : MemOperand) : MemArith (.addAMem m) .add false m
  | addMemA (m : MemOperand) : MemArith (.addMemA m) .add true m
  | addcAMem (m : MemOperand) : MemArith (.addcAMem m) .addc false m
  | addcMemA (m : MemOperand) : MemArith (.addcMemA m) .addc true m
  | subAMem (m : MemOperand) : MemArith (.subAMem m) .sub false m
  | subMemA (m : MemOperand) : MemArith (.subMemA m) .sub true m
  | subcAMem (m : MemOperand) : MemArith (.subcAMem m) .subc false m
  | subcMemA (m : MemOperand) : MemArith (.subcMemA m) .subc true m
  | andAMem (m : MemOperand) : MemArith (.andAMem m) .and false m
  | andMemA (m : MemOperand) : MemArith (.andMemA m) .and true m
  | xorAMem (m : MemOperand) : MemArith (.xorAMem m) .xor false m
  | xorMemA (m : MemOperand) : MemArith (.xorMemA m) .xor true m
  | orAMem (m : MemOperand) : MemArith (.orAMem m) .or false m
  | orMemA (m : MemOperand) : MemArith (.orMemA m) .or true m
  | cmpAMem (m : MemOperand) : MemArith (.cmpAMem m) .cmp false m
  | cmpMemA (m : MemOperand) : MemArith (.cmpMemA m) .cmp true m

/-- The word operations: operation, first and second operand (R285 to R305). -/
inductive WordArith (p : Psw) : Instr → WordOp → WordOperand → WordOperand → Prop where
  | addwAxWord (w : Word) : WordArith p (.addwAxWord w) .addw (.pair p.accumulator) (.imm w)
  | addwSaddrpWord (off : Byte) (w : Word) : WordArith p (.addwSaddrpWord off w) .addw (.saddrp off) (.imm w)
  | addwSfrpWord (off : Byte) (w : Word) : WordArith p (.addwSfrpWord off w) .addw (.sfrp off) (.imm w)
  | addwRpRp1 (rp : PairNo) (rp1 : PairNo) : WordArith p (.addwRpRp1 rp rp1) .addw (.pair rp) (.pair rp1)
  | addwAxSaddrp (off : Byte) : WordArith p (.addwAxSaddrp off) .addw (.pair p.accumulator) (.saddrp off)
  | addwAxSfrp (off : Byte) : WordArith p (.addwAxSfrp off) .addw (.pair p.accumulator) (.sfrp off)
  | addwSaddrpSaddrp (dst : Byte) (src : Byte) : WordArith p (.addwSaddrpSaddrp dst src) .addw (.saddrp dst) (.saddrp src)
  | subwAxWord (w : Word) : WordArith p (.subwAxWord w) .subw (.pair p.accumulator) (.imm w)
  | subwSaddrpWord (off : Byte) (w : Word) : WordArith p (.subwSaddrpWord off w) .subw (.saddrp off) (.imm w)
  | subwSfrpWord (off : Byte) (w : Word) : WordArith p (.subwSfrpWord off w) .subw (.sfrp off) (.imm w)
  | subwRpRp1 (rp : PairNo) (rp1 : PairNo) : WordArith p (.subwRpRp1 rp rp1) .subw (.pair rp) (.pair rp1)
  | subwAxSaddrp (off : Byte) : WordArith p (.subwAxSaddrp off) .subw (.pair p.accumulator) (.saddrp off)
  | subwAxSfrp (off : Byte) : WordArith p (.subwAxSfrp off) .subw (.pair p.accumulator) (.sfrp off)
  | subwSaddrpSaddrp (dst : Byte) (src : Byte) : WordArith p (.subwSaddrpSaddrp dst src) .subw (.saddrp dst) (.saddrp src)
  | cmpwAxWord (w : Word) : WordArith p (.cmpwAxWord w) .cmpw (.pair p.accumulator) (.imm w)
  | cmpwSaddrpWord (off : Byte) (w : Word) : WordArith p (.cmpwSaddrpWord off w) .cmpw (.saddrp off) (.imm w)
  | cmpwSfrpWord (off : Byte) (w : Word) : WordArith p (.cmpwSfrpWord off w) .cmpw (.sfrp off) (.imm w)
  | cmpwRpRp1 (rp : PairNo) (rp1 : PairNo) : WordArith p (.cmpwRpRp1 rp rp1) .cmpw (.pair rp) (.pair rp1)
  | cmpwAxSaddrp (off : Byte) : WordArith p (.cmpwAxSaddrp off) .cmpw (.pair p.accumulator) (.saddrp off)
  | cmpwAxSfrp (off : Byte) : WordArith p (.cmpwAxSfrp off) .cmpw (.pair p.accumulator) (.sfrp off)
  | cmpwSaddrpSaddrp (dst : Byte) (src : Byte) : WordArith p (.cmpwSaddrpSaddrp dst src) .cmpw (.saddrp dst) (.saddrp src)

/-- `INC` and `DEC`: whether up, the operand (R325 to R328). -/
inductive ByteStep : Instr → Bool → ByteOperand → Prop where
  | incR1 (r1 : Reg8) : ByteStep (.incR1 r1) true (.reg (reg8 r1))
  | incSaddr (off : Byte) : ByteStep (.incSaddr off) true (.saddr off)
  | decR1 (r1 : Reg8) : ByteStep (.decR1 r1) false (.reg (reg8 r1))
  | decSaddr (off : Byte) : ByteStep (.decSaddr off) false (.saddr off)

/-- `INCW` and `DECW`: whether up, the operand (R329 to R332, R419, R420). -/
inductive WordStep : Instr → Bool → WordOperand → Prop where
  | incwRp2 (rp2 : PointerPair) : WordStep (.incwRp2 rp2) true (.pair (pointerPair rp2))
  | incwSaddrp (off : Byte) : WordStep (.incwSaddrp off) true (.saddrp off)
  | decwRp2 (rp2 : PointerPair) : WordStep (.decwRp2 rp2) false (.pair (pointerPair rp2))
  | decwSaddrp (off : Byte) : WordStep (.decwSaddrp off) false (.saddrp off)
  | incwSp : WordStep .incwSp true .sp
  | decwSp : WordStep .decwSp false .sp

/-- What a form with destination CY does with a bit (R360). -/
inductive CarryOp where
  | mov | and | andNot | or | orNot | xor
  deriving DecidableEq, Repr

/-- CY after a form with destination CY, from CY and the bit. -/
def CarryOp.value : CarryOp → Bool → Bool → Bool
  | .mov, _, b => b
  | .and, c, b => c && b
  | .andNot, c, b => c && !b
  | .or, c, b => c || b
  | .orNot, c, b => c || !b
  | .xor, c, b => c != b

/-- What a form whose destination is a bit does (R360). -/
inductive BitOp where
  | mov | set | clr | not
  deriving DecidableEq, Repr

/-- The bit after a form whose destination it is, from CY and the bit. -/
def BitOp.value : BitOp → Bool → Bool → Bool
  | .mov, c, _ => c
  | .set, _, _ => true
  | .clr, _, _ => false
  | .not, _, b => !b

/-- The forms with destination CY: operation, byte, bit (R900 to R941). -/
inductive CarryBit (p : Psw) : Instr → CarryOp → ByteOperand → BitVec 3 → Prop where
  | mov1CySaddrBit (off : Byte) (bit : BitVec 3) : CarryBit p (.mov1CySaddrBit off bit) .mov (.saddr off) bit
  | mov1CySfrBit (off : Byte) (bit : BitVec 3) : CarryBit p (.mov1CySfrBit off bit) .mov (.sfr off) bit
  | mov1CyABit (bit : BitVec 3) : CarryBit p (.mov1CyABit bit) .mov (.reg p.regA) bit
  | mov1CyXBit (bit : BitVec 3) : CarryBit p (.mov1CyXBit bit) .mov (.reg p.regX) bit
  | mov1CyPswhBit (bit : BitVec 3) : CarryBit p (.mov1CyPswhBit bit) .mov .pswh bit
  | mov1CyPswlBit (bit : BitVec 3) : CarryBit p (.mov1CyPswlBit bit) .mov .pswl bit
  | and1CySaddrBit (off : Byte) (bit : BitVec 3) : CarryBit p (.and1CySaddrBit off bit) .and (.saddr off) bit
  | and1CyNotSaddrBit (off : Byte) (bit : BitVec 3) : CarryBit p (.and1CyNotSaddrBit off bit) .andNot (.saddr off) bit
  | and1CySfrBit (off : Byte) (bit : BitVec 3) : CarryBit p (.and1CySfrBit off bit) .and (.sfr off) bit
  | and1CyNotSfrBit (off : Byte) (bit : BitVec 3) : CarryBit p (.and1CyNotSfrBit off bit) .andNot (.sfr off) bit
  | and1CyABit (bit : BitVec 3) : CarryBit p (.and1CyABit bit) .and (.reg p.regA) bit
  | and1CyNotABit (bit : BitVec 3) : CarryBit p (.and1CyNotABit bit) .andNot (.reg p.regA) bit
  | and1CyXBit (bit : BitVec 3) : CarryBit p (.and1CyXBit bit) .and (.reg p.regX) bit
  | and1CyNotXBit (bit : BitVec 3) : CarryBit p (.and1CyNotXBit bit) .andNot (.reg p.regX) bit
  | and1CyPswhBit (bit : BitVec 3) : CarryBit p (.and1CyPswhBit bit) .and .pswh bit
  | and1CyNotPswhBit (bit : BitVec 3) : CarryBit p (.and1CyNotPswhBit bit) .andNot .pswh bit
  | and1CyPswlBit (bit : BitVec 3) : CarryBit p (.and1CyPswlBit bit) .and .pswl bit
  | and1CyNotPswlBit (bit : BitVec 3) : CarryBit p (.and1CyNotPswlBit bit) .andNot .pswl bit
  | or1CySaddrBit (off : Byte) (bit : BitVec 3) : CarryBit p (.or1CySaddrBit off bit) .or (.saddr off) bit
  | or1CyNotSaddrBit (off : Byte) (bit : BitVec 3) : CarryBit p (.or1CyNotSaddrBit off bit) .orNot (.saddr off) bit
  | or1CySfrBit (off : Byte) (bit : BitVec 3) : CarryBit p (.or1CySfrBit off bit) .or (.sfr off) bit
  | or1CyNotSfrBit (off : Byte) (bit : BitVec 3) : CarryBit p (.or1CyNotSfrBit off bit) .orNot (.sfr off) bit
  | or1CyABit (bit : BitVec 3) : CarryBit p (.or1CyABit bit) .or (.reg p.regA) bit
  | or1CyNotABit (bit : BitVec 3) : CarryBit p (.or1CyNotABit bit) .orNot (.reg p.regA) bit
  | or1CyXBit (bit : BitVec 3) : CarryBit p (.or1CyXBit bit) .or (.reg p.regX) bit
  | or1CyNotXBit (bit : BitVec 3) : CarryBit p (.or1CyNotXBit bit) .orNot (.reg p.regX) bit
  | or1CyPswhBit (bit : BitVec 3) : CarryBit p (.or1CyPswhBit bit) .or .pswh bit
  | or1CyNotPswhBit (bit : BitVec 3) : CarryBit p (.or1CyNotPswhBit bit) .orNot .pswh bit
  | or1CyPswlBit (bit : BitVec 3) : CarryBit p (.or1CyPswlBit bit) .or .pswl bit
  | or1CyNotPswlBit (bit : BitVec 3) : CarryBit p (.or1CyNotPswlBit bit) .orNot .pswl bit
  | xor1CySaddrBit (off : Byte) (bit : BitVec 3) : CarryBit p (.xor1CySaddrBit off bit) .xor (.saddr off) bit
  | xor1CySfrBit (off : Byte) (bit : BitVec 3) : CarryBit p (.xor1CySfrBit off bit) .xor (.sfr off) bit
  | xor1CyABit (bit : BitVec 3) : CarryBit p (.xor1CyABit bit) .xor (.reg p.regA) bit
  | xor1CyXBit (bit : BitVec 3) : CarryBit p (.xor1CyXBit bit) .xor (.reg p.regX) bit
  | xor1CyPswhBit (bit : BitVec 3) : CarryBit p (.xor1CyPswhBit bit) .xor .pswh bit
  | xor1CyPswlBit (bit : BitVec 3) : CarryBit p (.xor1CyPswlBit bit) .xor .pswl bit

/-- The forms whose destination is a bit: operation, byte, bit (R906 to R911, R942 to R961). -/
inductive BitWrite (p : Psw) : Instr → BitOp → ByteOperand → BitVec 3 → Prop where
  | mov1SaddrBitCy (off : Byte) (bit : BitVec 3) : BitWrite p (.mov1SaddrBitCy off bit) .mov (.saddr off) bit
  | mov1SfrBitCy (off : Byte) (bit : BitVec 3) : BitWrite p (.mov1SfrBitCy off bit) .mov (.sfr off) bit
  | mov1ABitCy (bit : BitVec 3) : BitWrite p (.mov1ABitCy bit) .mov (.reg p.regA) bit
  | mov1XBitCy (bit : BitVec 3) : BitWrite p (.mov1XBitCy bit) .mov (.reg p.regX) bit
  | mov1PswhBitCy (bit : BitVec 3) : BitWrite p (.mov1PswhBitCy bit) .mov .pswh bit
  | mov1PswlBitCy (bit : BitVec 3) : BitWrite p (.mov1PswlBitCy bit) .mov .pswl bit
  | set1SaddrBit (off : Byte) (bit : BitVec 3) : BitWrite p (.set1SaddrBit off bit) .set (.saddr off) bit
  | set1SfrBit (off : Byte) (bit : BitVec 3) : BitWrite p (.set1SfrBit off bit) .set (.sfr off) bit
  | set1ABit (bit : BitVec 3) : BitWrite p (.set1ABit bit) .set (.reg p.regA) bit
  | set1XBit (bit : BitVec 3) : BitWrite p (.set1XBit bit) .set (.reg p.regX) bit
  | set1PswhBit (bit : BitVec 3) : BitWrite p (.set1PswhBit bit) .set .pswh bit
  | set1PswlBit (bit : BitVec 3) : BitWrite p (.set1PswlBit bit) .set .pswl bit
  | clr1SaddrBit (off : Byte) (bit : BitVec 3) : BitWrite p (.clr1SaddrBit off bit) .clr (.saddr off) bit
  | clr1SfrBit (off : Byte) (bit : BitVec 3) : BitWrite p (.clr1SfrBit off bit) .clr (.sfr off) bit
  | clr1ABit (bit : BitVec 3) : BitWrite p (.clr1ABit bit) .clr (.reg p.regA) bit
  | clr1XBit (bit : BitVec 3) : BitWrite p (.clr1XBit bit) .clr (.reg p.regX) bit
  | clr1PswhBit (bit : BitVec 3) : BitWrite p (.clr1PswhBit bit) .clr .pswh bit
  | clr1PswlBit (bit : BitVec 3) : BitWrite p (.clr1PswlBit bit) .clr .pswl bit
  | not1SaddrBit (off : Byte) (bit : BitVec 3) : BitWrite p (.not1SaddrBit off bit) .not (.saddr off) bit
  | not1SfrBit (off : Byte) (bit : BitVec 3) : BitWrite p (.not1SfrBit off bit) .not (.sfr off) bit
  | not1ABit (bit : BitVec 3) : BitWrite p (.not1ABit bit) .not (.reg p.regA) bit
  | not1XBit (bit : BitVec 3) : BitWrite p (.not1XBit bit) .not (.reg p.regX) bit
  | not1PswhBit (bit : BitVec 3) : BitWrite p (.not1PswhBit bit) .not .pswh bit
  | not1PswlBit (bit : BitVec 3) : BitWrite p (.not1PswlBit bit) .not .pswl bit

/-- The conditions of the relative branches on flags (R449 to R463). -/
inductive Condition where
  | always | c | nc | z | nz | v | nv | n | p | gt | ge | lt | le | h | nh
  deriving DecidableEq, Repr

/-- Whether a condition holds of the flags. -/
def Condition.holds : Condition → Psw → Bool
  | .always, _ => true
  | .c, q => q.cy
  | .nc, q => !q.cy
  | .z, q => q.z
  | .nz, q => !q.z
  | .v, q => q.pv
  | .nv, q => !q.pv
  | .n, q => q.s
  | .p, q => !q.s
  | .gt, q => q.pv == q.s && !q.z
  | .ge, q => q.pv == q.s
  | .lt, q => q.pv != q.s
  | .le, q => q.pv != q.s || q.z
  | .h, q => !q.z && !q.cy
  | .nh, q => q.z || q.cy

/-- The relative branches on flags: condition, displacement (R449 to R463). -/
inductive FlagBranch : Instr → Condition → Byte → Prop where
  | brRel (jdisp : Byte) : FlagBranch (.brRel jdisp) .always jdisp
  | bcRel (jdisp : Byte) : FlagBranch (.bcRel jdisp) .c jdisp
  | bncRel (jdisp : Byte) : FlagBranch (.bncRel jdisp) .nc jdisp
  | bzRel (jdisp : Byte) : FlagBranch (.bzRel jdisp) .z jdisp
  | bnzRel (jdisp : Byte) : FlagBranch (.bnzRel jdisp) .nz jdisp
  | bvRel (jdisp : Byte) : FlagBranch (.bvRel jdisp) .v jdisp
  | bnvRel (jdisp : Byte) : FlagBranch (.bnvRel jdisp) .nv jdisp
  | bnRel (jdisp : Byte) : FlagBranch (.bnRel jdisp) .n jdisp
  | bpRel (jdisp : Byte) : FlagBranch (.bpRel jdisp) .p jdisp
  | bgtRel (jdisp : Byte) : FlagBranch (.bgtRel jdisp) .gt jdisp
  | bgeRel (jdisp : Byte) : FlagBranch (.bgeRel jdisp) .ge jdisp
  | bltRel (jdisp : Byte) : FlagBranch (.bltRel jdisp) .lt jdisp
  | bleRel (jdisp : Byte) : FlagBranch (.bleRel jdisp) .le jdisp
  | bhRel (jdisp : Byte) : FlagBranch (.bhRel jdisp) .h jdisp
  | bnhRel (jdisp : Byte) : FlagBranch (.bnhRel jdisp) .nh jdisp

/-- `BT` and `BF`: the sense, byte, bit, displacement (R464 to R475). -/
inductive BitTest (p : Psw) : Instr → Bool → ByteOperand → BitVec 3 → Byte → Prop where
  | btSaddrBitRel (off : Byte) (bit : BitVec 3) (jdisp : Byte) : BitTest p (.btSaddrBitRel off bit jdisp) true (.saddr off) bit jdisp
  | btSfrBitRel (off : Byte) (bit : BitVec 3) (jdisp : Byte) : BitTest p (.btSfrBitRel off bit jdisp) true (.sfr off) bit jdisp
  | btABitRel (bit : BitVec 3) (jdisp : Byte) : BitTest p (.btABitRel bit jdisp) true (.reg p.regA) bit jdisp
  | btXBitRel (bit : BitVec 3) (jdisp : Byte) : BitTest p (.btXBitRel bit jdisp) true (.reg p.regX) bit jdisp
  | btPswhBitRel (bit : BitVec 3) (jdisp : Byte) : BitTest p (.btPswhBitRel bit jdisp) true .pswh bit jdisp
  | btPswlBitRel (bit : BitVec 3) (jdisp : Byte) : BitTest p (.btPswlBitRel bit jdisp) true .pswl bit jdisp
  | bfSaddrBitRel (off : Byte) (bit : BitVec 3) (jdisp : Byte) : BitTest p (.bfSaddrBitRel off bit jdisp) false (.saddr off) bit jdisp
  | bfSfrBitRel (off : Byte) (bit : BitVec 3) (jdisp : Byte) : BitTest p (.bfSfrBitRel off bit jdisp) false (.sfr off) bit jdisp
  | bfABitRel (bit : BitVec 3) (jdisp : Byte) : BitTest p (.bfABitRel bit jdisp) false (.reg p.regA) bit jdisp
  | bfXBitRel (bit : BitVec 3) (jdisp : Byte) : BitTest p (.bfXBitRel bit jdisp) false (.reg p.regX) bit jdisp
  | bfPswhBitRel (bit : BitVec 3) (jdisp : Byte) : BitTest p (.bfPswhBitRel bit jdisp) false .pswh bit jdisp
  | bfPswlBitRel (bit : BitVec 3) (jdisp : Byte) : BitTest p (.bfPswlBitRel bit jdisp) false .pswl bit jdisp

/-- `BTCLR` and `BFSET`: the sense, byte, bit, displacement (R476 to R487). -/
inductive BitTestWrite (p : Psw) : Instr → Bool → ByteOperand → BitVec 3 → Byte → Prop where
  | btclrSaddrBitRel (off : Byte) (bit : BitVec 3) (jdisp : Byte) : BitTestWrite p (.btclrSaddrBitRel off bit jdisp) true (.saddr off) bit jdisp
  | btclrSfrBitRel (off : Byte) (bit : BitVec 3) (jdisp : Byte) : BitTestWrite p (.btclrSfrBitRel off bit jdisp) true (.sfr off) bit jdisp
  | btclrABitRel (bit : BitVec 3) (jdisp : Byte) : BitTestWrite p (.btclrABitRel bit jdisp) true (.reg p.regA) bit jdisp
  | btclrXBitRel (bit : BitVec 3) (jdisp : Byte) : BitTestWrite p (.btclrXBitRel bit jdisp) true (.reg p.regX) bit jdisp
  | btclrPswhBitRel (bit : BitVec 3) (jdisp : Byte) : BitTestWrite p (.btclrPswhBitRel bit jdisp) true .pswh bit jdisp
  | btclrPswlBitRel (bit : BitVec 3) (jdisp : Byte) : BitTestWrite p (.btclrPswlBitRel bit jdisp) true .pswl bit jdisp
  | bfsetSaddrBitRel (off : Byte) (bit : BitVec 3) (jdisp : Byte) : BitTestWrite p (.bfsetSaddrBitRel off bit jdisp) false (.saddr off) bit jdisp
  | bfsetSfrBitRel (off : Byte) (bit : BitVec 3) (jdisp : Byte) : BitTestWrite p (.bfsetSfrBitRel off bit jdisp) false (.sfr off) bit jdisp
  | bfsetABitRel (bit : BitVec 3) (jdisp : Byte) : BitTestWrite p (.bfsetABitRel bit jdisp) false (.reg p.regA) bit jdisp
  | bfsetXBitRel (bit : BitVec 3) (jdisp : Byte) : BitTestWrite p (.bfsetXBitRel bit jdisp) false (.reg p.regX) bit jdisp
  | bfsetPswhBitRel (bit : BitVec 3) (jdisp : Byte) : BitTestWrite p (.bfsetPswhBitRel bit jdisp) false .pswh bit jdisp
  | bfsetPswlBitRel (bit : BitVec 3) (jdisp : Byte) : BitTestWrite p (.bfsetPswlBitRel bit jdisp) false .pswl bit jdisp

/-- `DBNZ`: the byte, displacement (R488, R489). -/
inductive CountBranch (p : Psw) : Instr → ByteOperand → Byte → Prop where
  | dbnzR2Rel (r2 : CountReg) (jdisp : Byte) : CountBranch p (.dbnzR2Rel r2 jdisp) (.reg (countReg p r2)) jdisp
  | dbnzSaddrRel (off : Byte) (jdisp : Byte) : CountBranch p (.dbnzSaddrRel off jdisp) (.saddr off) jdisp

/-- What a rotate or shift does (R341 to R348). -/
inductive ShiftOp where
  | ror | rol | rorc | rolc | shr | shl
  deriving DecidableEq, Repr

/-- The rotates, which keep S, Z and AC (R340(d)). -/
def ShiftOp.rotates : ShiftOp → Bool
  | .shr | .shl => false
  | _ => true

/-- The value and carry after `n` steps on a value and a carry. -/
def ShiftOp.value {w : Nat} : ShiftOp → Nat → BitVec w → Bool → BitVec w × Bool
  | .ror => rotateRightOf
  | .rol => rotateLeftOf
  | .rorc => rotateRightCarryOf
  | .rolc => rotateLeftCarryOf
  | .shr => shiftRightOf
  | .shl => shiftLeftOf

/-- The rotates and shifts of a byte: operation, register, count (R341 to R346). -/
inductive ByteShift : Instr → ShiftOp → Reg8 → BitVec 3 → Prop where
  | rorR1N (r1 : Reg8) (n : BitVec 3) : ByteShift (.rorR1N r1 n) .ror r1 n
  | rolR1N (r1 : Reg8) (n : BitVec 3) : ByteShift (.rolR1N r1 n) .rol r1 n
  | rorcR1N (r1 : Reg8) (n : BitVec 3) : ByteShift (.rorcR1N r1 n) .rorc r1 n
  | rolcR1N (r1 : Reg8) (n : BitVec 3) : ByteShift (.rolcR1N r1 n) .rolc r1 n
  | shrR1N (r1 : Reg8) (n : BitVec 3) : ByteShift (.shrR1N r1 n) .shr r1 n
  | shlR1N (r1 : Reg8) (n : BitVec 3) : ByteShift (.shlR1N r1 n) .shl r1 n

/-- The shifts of a pair: operation, pair, count (R347, R348). -/
inductive WordShift : Instr → ShiftOp → PairNo → BitVec 3 → Prop where
  | shrwRp1N (rp1 : PairNo) (n : BitVec 3) : WordShift (.shrwRp1N rp1 n) .shr rp1 n
  | shlwRp1N (rp1 : PairNo) (n : BitVec 3) : WordShift (.shlwRp1N rp1 n) .shl rp1 n

/-- The string moves and exchanges: whether they exchange, whether HL names the second operand, whether pointers rise
(R493 to R500). -/
inductive StringMove : Instr → Bool → Bool → Bool → Prop where
  | movmInc : StringMove .movmInc false false true
  | movmDec : StringMove .movmDec false false false
  | movbkInc : StringMove .movbkInc false true true
  | movbkDec : StringMove .movbkDec false true false
  | xchmInc : StringMove .xchmInc true false true
  | xchmDec : StringMove .xchmDec true false false
  | xchbkInc : StringMove .xchbkInc true true true
  | xchbkDec : StringMove .xchbkDec true true false

/-- The string compares: whether HL names the second operand, whether pointers rise, the flags they end on (R501 to R516). -/
inductive StringCompare : Instr → Bool → Bool → Condition → Prop where
  | cmpmeInc : StringCompare .cmpmeInc false true .nz
  | cmpmeDec : StringCompare .cmpmeDec false false .nz
  | cmpbkeInc : StringCompare .cmpbkeInc true true .nz
  | cmpbkeDec : StringCompare .cmpbkeDec true false .nz
  | cmpmneInc : StringCompare .cmpmneInc false true .z
  | cmpmneDec : StringCompare .cmpmneDec false false .z
  | cmpbkneInc : StringCompare .cmpbkneInc true true .z
  | cmpbkneDec : StringCompare .cmpbkneDec true false .z
  | cmpmcInc : StringCompare .cmpmcInc false true .nc
  | cmpmcDec : StringCompare .cmpmcDec false false .nc
  | cmpbkcInc : StringCompare .cmpbkcInc true true .nc
  | cmpbkcDec : StringCompare .cmpbkcDec true false .nc
  | cmpmncInc : StringCompare .cmpmncInc false true .c
  | cmpmncDec : StringCompare .cmpmncDec false false .c
  | cmpbkncInc : StringCompare .cmpbkncInc true true .c
  | cmpbkncDec : StringCompare .cmpbkncDec true false .c

/-- The instructions that change the PSW alone: the PSW after them (R519 to R524, R948, R955, R962). -/
inductive PswOnly (p : Psw) : Instr → Psw → Prop where
  | set1Cy : PswOnly p .set1Cy { p with cy := true }
  | clr1Cy : PswOnly p .clr1Cy { p with cy := false }
  | not1Cy : PswOnly p .not1Cy { p with cy := !p.cy }
  | swrs : PswOnly p .swrs { p with rss := !p.rss }
  | selRbn (n : BitVec 3) : PswOnly p (.selRbn n) { p with rbs := n, rss := false }
  | selRbnAlt (n : BitVec 3) : PswOnly p (.selRbnAlt n) { p with rbs := n, rss := true }
  | nop : PswOnly p .nop p
  | ei : PswOnly p .ei { p with ie := true }
  | di : PswOnly p .di { p with ie := false }

/-- The calls whose target is no word of memory: the target (R401, R402, R404). -/
inductive DirectCall (s : State) : Instr → Addr → Prop where
  | callAddr16 (w : Addr) : DirectCall s (.callAddr16 w) w
  | callfAddr11 (f11 : BitVec 11) : DirectCall s (.callfAddr11 f11) (BitVec.ofNat 16 (0x800 + f11.toNat))
  | callRp1 (rp1 : PairNo) : DirectCall s (.callRp1 rp1) (readPair s.psw rp1 s)

end Sys2Proof.Machine
end

