-- ==== Sys2Proof/Certificates/Slice0/Obligations.lean ====
section
/-!
DEFINITION. Certificates/Slice0/Obligations.lean: the statements for the provers.
In them `u.withPc (s.after i.length)` is the state `u` at the next instruction, `OnlyCells l s u` says that `u` differs from `s` at
the listed addresses only, registers and SFRs among them, and that SP and PSW are the same unless FFFCH to FFFFH are listed.
-/

open Sys2Proof Sys2Proof.Machine

/-! ## Encoding -/

/-- Every well-formed instruction decodes from its own bytes, whatever follows them (R120, R140 to R149). The bytes lost from
the listing and the order of two saddr offsets are the model's choice, log 14 and log 26. -/
def Obligations.DecodeUndoesEncode : Prop :=
  ∀ (i : Instr) (tail : List Byte), i.wellFormed = true → decode (encode i ++ tail) = .ok (i, tail)

/-- What the decoder answers re-encodes to the bytes it read: no two byte sequences are one instruction (R140 to R149, R153; log
14, log 26). -/
def Obligations.EncodeUndoesDecode : Prop :=
  ∀ (bs tail : List Byte) (i : Instr), decode bs = .ok (i, tail) → encode i ++ tail = bs

/-- Bytes written out from the examples of R201, R236, R324, R345, R348, R476, R402, R490, R500 and R517, in this order, decode to the
instruction of the rule (the fields are those of R140, R142, R143, R145, R146, R149). -/
def Obligations.ExampleWordsDecode : Prop :=
  decode [0xB9#8, 0x5A#8] = .ok (.movR1Byte 1#3 0x5A#8, []) ∧
  decode [0x1C#8, 0x40#8] = .ok (.movwAxSaddrp 0x40#8, []) ∧
  decode [0x05#8, 0xEE#8] = .ok (.divuxRp1 3#3, []) ∧
  decode [0x30#8, 0x91#8] = .ok (.shrR1N 1#3 2#3, []) ∧
  decode [0x31#8, 0xE7#8] = .ok (.shlwRp1N 7#3 4#3, []) ∧
  decode [0x08#8, 0xD3#8, 0x40#8, 0x10#8] = .ok (.btclrSaddrBitRel 0x40#8 3#3 0x10#8, []) ∧
  decode [0x92#8, 0x34#8] = .ok (.callfAddr11 0x234#11, []) ∧
  decode [0x05#8, 0xDA#8] = .ok (.brkcsRbn 2#3, []) ∧
  decode [0x15#8, 0x31#8] = .ok (.xchbkDec, []) ∧
  decode [0x09#8, 0x44#8, 0xFE#8, 0x01#8] = .ok (.movStbcByte 0xFE#8 0x01#8, [])

/-- Which bytes are an instruction, by the first two: 5FH is none, a first byte with more than one meaning is one with the second bytes
that the tables of R141 to R149 assign, and every other is one; what is none is refused by its bytes, however many follow (R140 to
R150; the refusal is log 43, the bytes lost from the listing log 26). Bytes that end inside an instruction, and no bytes, are answered
as cut short, which is no instruction and no refusal of one (R120, R121). -/
def Obligations.UnassignedBytesAreRejected : Prop :=
  (∀ tail : List Byte, decode (0x5F#8 :: tail) = .error (.unassignedFirst 0x5F#8)) ∧
  (∀ (b1 b2 : Byte) (tail : List Byte), b1 ≠ 0x5F#8 →
    secondByteAssigned b1 b2 = false → decode (b1 :: b2 :: tail) = .error (.unassignedSecond b1 b2)) ∧
  (∀ (b1 b2 x y z : Byte) (tail : List Byte), b1 ≠ 0x5F#8 →
    secondByteAssigned b1 b2 = true → ∃ r, decode (b1 :: b2 :: x :: y :: z :: tail) = .ok r) ∧
  (∀ (bs tail : List Byte) (i : Instr), decode bs = .ok (i, tail) →
    i.length + tail.length = bs.length ∧ ∀ n, n < i.length → decode (bs.take n) = .error .truncated)

/-! ## One step -/

/-- When the bytes at pc are those of a well-formed instruction and no event is due, a step is that instruction, and after it the
free values move on and the prefetch queue is brought up to date (R18, R121, R615; the counter of the free values and the queue are
the model's own, log 41, log 49). -/
def Obligations.StepRunsTheInstructionAtPc : Prop :=
  ∀ (s : State) (i : Instr), i.wellFormed = true → s.run = .running → boundary s = none →
    (∀ j, j < i.length → fetchByte (s.pc + BitVec.ofNat 16 j) s = .ok ((encode i).getD j 0#8)) →
    (∀ t, exec i s = .next t →
      step s = .next { t with
        draws := s.draws + 1,
        prefetch := stalePrefetch (refetches i s) i.length s t,
        fetched := if refetches i s = false ∧ t.pc = s.pc then i.length else 0 }) ∧
    (∀ f, exec i s = .fault f → step s = .fault f) ∧
    (∀ r, exec i s = .refused r → step s = .refused r)

/-- Where memory reads as it holds, on-chip ROM among it, an instruction byte is the one in memory or one the prefetch queue holds of
that address, and the one in memory where the queue holds none; no byte is fetched from FF00H up (R83, R112, log 41, log 42). -/
def Obligations.FetchReadsMemoryOutsideTheQueue : Prop :=
  ∀ (s : State) (a : Addr),
    (0xFF00 ≤ a.toNat → fetchByte a s = .error (.fault (.fetchSfr a.toNat))) ∧
    (readsAsHeld s a.toNat = true →
      (∃ v, fetchByte a s = .ok v ∧ (v = s.byte a.toNat ∨ (a.toNat, v) ∈ s.prefetch)) ∧
      ((∀ c ∈ s.prefetch, c.1 ≠ a.toNat) → fetchByte a s = .ok (s.byte a.toNat)))

/-- Every step keeps the canonical form of memory, the agreement of STBC with the run state, the record of ISPR, the read-only low
nibbles of PM2 and PM3, no interrupt in service before one was accepted, and the fields of the maskable sources that a control register
can hold (R51, R53, R57, R602, R612, R650, R651). The bits of STBC are log 25, the fields log 27, the service list log 30 and its record
of acceptance log 49, ISPR log 34, the nibbles log 36. -/
def Obligations.StepKeepsTheInvariant : Prop :=
  ∀ (s t : State), s.inv = true → step s = .next t → t.inv = true

/-- The machine after reset meets the invariant that every step keeps; what the manual leaves open of reset is log 1 to log 8. -/
def Obligations.ResetMeetsTheInvariant : Prop := State.reset.inv = true

/-- The events of the environment: a request of a maskable source sets its request, of which its control register then reads a free
value, except in STOP, where only NMI and RESET are seen; NMI becomes pending; the watchdog counts while it runs outside STOP, and then
can become pending; nothing else changes, and each event keeps the invariant that every step keeps (R611, R612, R650, R655, R700). That
they are functions of their own is the model's choice, log 46; the fields of a source are log 27, the watchdog log 32. -/
def Obligations.EnvironmentKeepsTheInvariant : Prop :=
  (∀ (s : State) (q : Source),
    (s.run ≠ .stopped → requested (raiseRequest q s) q = true ∧ masked (raiseRequest q s) q = masked s q ∧
      serviceMode (raiseRequest q s) q = serviceMode s q) ∧
    (s.run ≠ .stopped → requested s q = false → raiseRequest q s =
      { s with sources := s.sources.set q { s.sources.get q with request := true, changed := true } }) ∧
    (s.run = .stopped ∨ requested s q = true → raiseRequest q s = s) ∧
    ∀ r, r ≠ q → (raiseRequest q s).sources.get r = s.sources.get r) ∧
  (∀ s : State,
    raiseNmi s = { s with nmiPending := true } ∧
    (s.wdtRunning = true ∧ s.run ≠ .stopped →
      wdtTick s = { s with wdtCount := s.wdtCount + 1 } ∧ wdtTimeout s = { s with wdtPending := true }) ∧
    (s.wdtRunning = false ∨ s.run = .stopped → wdtTick s = s ∧ wdtTimeout s = s)) ∧
  (∀ (s : State), s.inv = true →
    (∀ q, (raiseRequest q s).inv = true) ∧ (raiseNmi s).inv = true ∧ (wdtTick s).inv = true ∧
    (wdtTimeout s).inv = true ∧ (∀ t, resetPin s = .ok t → t.inv = true))

/-! ## Memory and registers -/

/-- A byte read by the class of its address: storage answers what it holds, a device anything, what does not exist or may not be
read stops (R50, R53, R55, R57, R83, R84, R108). Free values and stops are the model's choice, log 7, log 27, log 33 to log 35, log 37,
log 47. -/
def Obligations.ByteReadByAddressClass : Prop :=
  ∀ (k : Nat) (a : Addr) (s : State),
    let n := a.toNat
    let device := [0xFF00, 0xFF01, 0xFF02, 0xFF03, 0xFF04, 0xFF05, 0xFF08, 0xFF09, 0xFF0A, 0xFF0B, 0xFF0C, 0xFF0D, 0xFF0E, 0xFF0F,
      0xFF10, 0xFF11, 0xFF12, 0xFF13, 0xFF14, 0xFF15, 0xFF16, 0xFF17, 0xFF1C, 0xFF1D, 0xFF1E, 0xFF1F, 0xFF3A, 0xFF3B, 0xFF56,
      0xFF6A, 0xFF88, 0xFF89, 0xFF8A, 0xFF8B, 0xFF8C, 0xFF8D, 0xFF8E, 0xFF8F]
    let recorded := [0xFF20, 0xFF21, 0xFF22, 0xFF23, 0xFF25, 0xFF32, 0xFF33, 0xFF38, 0xFF40, 0xFF41, 0xFF42, 0xFF44, 0xFF46,
      0xFF48, 0xFF4E, 0xFF50, 0xFF52, 0xFF53, 0xFF60, 0xFF64, 0xFF66, 0xFF68, 0xFF70, 0xFF72, 0xFF74, 0xFF7A, 0xFF80, 0xFF82,
      0xFFC1, 0xFFC5, 0xFFC9, 0xFFCB, 0xFFCD, 0xFFCF, 0xFFD1, 0xFFD3, 0xFFDD, 0xFFDF, 0xFFE1]
    let control := [0xFFC0, 0xFFC2, 0xFFC4, 0xFFC6, 0xFFC8, 0xFFCA, 0xFFCC, 0xFFCE, 0xFFD0, 0xFFD2, 0xFFDA, 0xFFDC, 0xFFDE,
      0xFFE0, 0xFFE2]
    if n < 0xFF00 then
      match s.place n with
      | .unmapped => readByte k a s = .error (.fault (.unmapped n))
      | .notEnabled => readByte k a s = .error (.fault (.notEnabled n))
      | .external .device => readByte k a s = .ok (Config.deviceByte s.draws n k)
      | _ => readByte k a s = .ok (s.byte n)
    else if n = 0xFFFC then readByte k a s = .ok (BitVec.ofNat 8 s.sp.toNat)
    else if n = 0xFFFD then readByte k a s = .ok (BitVec.ofNat 8 (s.sp.toNat / 256))
    else if n = 0xFFFE then readByte k a s = .ok s.psw.low
    else if n = 0xFFFF then readByte k a s = .ok s.psw.high
    else if n ∈ device ∨ (0xFFB0 ≤ n ∧ n ≤ 0xFFBF) then readByte k a s = .ok (Config.deviceByte s.draws n k)
    else if n ∈ recorded then readByte k a s = .ok (s.byte n)
    else if n ∈ control then
      ∃ q : Source, q.control = n ∧
        readByte k a s = .ok (if (s.sources.get q).changed then Config.deviceByte s.draws n k else s.byte n)
    else if n = 0xFF4A then ∃ v, readByte k a s = .ok v ∧ (s.accepted = false → v = s.byte n)
    else if n = 0xFF57 then readByte k a s = .error (.fault (.writeOnlySfr n))
    else readByte k a s = .error (.fault (.sfrHole n))

/-- A byte written by the class of its address: storage keeps it, the read-only low nibbles of P2, P3, PM2, PM3 and the registers
WDM and STBC do not change, read-only external memory does not, an interrupt control register gives its source the fields that
Config.controlFields reads from the byte, and the level of its group where it holds it, 47H those of the reset (log 27), SP and PSW
take the byte, the PSW bit by bit in the layout of log 12, ROM, read-only registers and what does not exist stop (R9, R32, R33, R50, R53
to R55, R83, R84, R612; log 7, log 12, log 27, log 33, log 35 to log 37, log 47). -/
def Obligations.ByteWriteByAddressClass : Prop :=
  ∀ (a : Addr) (v : Byte) (s : State), s.mem.wf = true →
    let n := a.toNat
    let stores (w : Byte) : Prop := ∃ t, writeByte a v s = .ok t ∧ t.byte n = w ∧ OnlyCells [n] s t
    let recorded := [0xFF00, 0xFF01, 0xFF04, 0xFF05, 0xFF08, 0xFF09, 0xFF0A, 0xFF0B, 0xFF0C, 0xFF0D, 0xFF0E, 0xFF0F,
      0xFF10, 0xFF11, 0xFF12, 0xFF13, 0xFF14, 0xFF15, 0xFF16, 0xFF17, 0xFF1C, 0xFF1D, 0xFF1E, 0xFF1F, 0xFF20, 0xFF21, 0xFF25,
      0xFF32, 0xFF33, 0xFF38, 0xFF3A, 0xFF3B, 0xFF40, 0xFF41, 0xFF46, 0xFF48, 0xFF4E, 0xFF50, 0xFF52, 0xFF53, 0xFF57, 0xFF60,
      0xFF64, 0xFF66, 0xFF68, 0xFF70, 0xFF72, 0xFF74, 0xFF7A, 0xFF80, 0xFF82, 0xFF88, 0xFF89, 0xFF8A, 0xFF8B, 0xFF8C, 0xFF8D,
      0xFF8E, 0xFF8F, 0xFFC1, 0xFFC5, 0xFFC9, 0xFFCB, 0xFFCD, 0xFFCF, 0xFFD1, 0xFFD3, 0xFFDD, 0xFFDF, 0xFFE1]
    let control := [0xFFC0, 0xFFC2, 0xFFC4, 0xFFC6, 0xFFC8, 0xFFCA, 0xFFCC, 0xFFCE, 0xFFD0, 0xFFD2, 0xFFDA, 0xFFDC, 0xFFDE,
      0xFFE0, 0xFFE2]
    if n < 0xFF00 then
      match s.place n with
      | .unmapped => writeByte a v s = .error (.fault (.unmapped n))
      | .notEnabled => writeByte a v s = .error (.fault (.notEnabled n))
      | .external .readOnly => writeByte a v s = .ok s
      | .rom => writeByte a v s = .error (.fault (.romStore n))
      | _ => stores v
    else if n = 0xFFFC then ∃ t, writeByte a v s = .ok t ∧ t = { s with sp := Word.ofBytes v (Word.hi s.sp) }
    else if n = 0xFFFD then ∃ t, writeByte a v s = .ok t ∧ t = { s with sp := Word.ofBytes (Word.lo s.sp) v }
    else if n = 0xFFFE then ∃ t, writeByte a v s = .ok t ∧ t = { s with psw := t.psw } ∧ t.psw.low = v ∧ t.psw.high = s.psw.high
    else if n = 0xFFFF then
      ∃ t, writeByte a v s = .ok t ∧ t = { s with psw := t.psw } ∧ t.psw.low = s.psw.low ∧
        t.psw.rbs.toNat = v.toNat / 16 % 8 ∧ t.psw.ie = decide (v.toNat % 2 = 1)
    else if n = 0xFF02 ∨ n = 0xFF03 ∨ n = 0xFF22 ∨ n = 0xFF23 then
      stores (BitVec.ofNat 8 (v.toNat / 16 * 16 + (s.byte n).toNat % 16))
    else if n = 0xFF42 ∨ n = 0xFF44 then stores (s.byte n)
    else if n = 0xFF4A ∨ n = 0xFF56 ∨ n = 0xFF6A then writeByte a v s = .error (.fault (.readOnlySfr n))
    else if n ∈ control then
      ∃ (q : Source) (t : State), q.control = n ∧ writeByte a v s = .ok t ∧ t.byte n = v ∧ OnlyCells [n] s t ∧
        (let f := Config.controlFields q.priority v
         let c := t.sources.get q
         c.changed = false ∧ c.ended = false ∧ c.bank = f.bank ∧
         (v = 0x47#8 → requested t q = false ∧ masked t q = true ∧ serviceMode t q = .vector ∧ c.macroservice = false ∧
           c.context = false ∧ level t q = (if f.level = none then level s q else 7#3)) ∧
         (v ≠ 0x47#8 → requested t q = f.request ∧ masked t q = f.masked ∧ c.macroservice = (f.macroservice && q.canMacro) ∧
           c.context = f.context ∧ level t q = f.level.getD (level s q)))
    else if n ∈ recorded ∨ (0xFFB0 ≤ n ∧ n ≤ 0xFFBF) then stores v
    else writeByte a v s = .error (.fault (.sfrHole n))

/-- Register Ri of bank b is the RAM byte at FEF0H - 10H * b + i (log 10), another byte for every bank and register; a store there
changes the register and a write of the register changes that byte and no other (R26). That a pair is its odd register over its even one
is the manual's for RP2 and RP3 and the model's choice for the others (R22, log 11). -/
def Obligations.RegistersArePlacesInRam : Prop :=
  (∀ (b c : BitVec 3) (i j : RegNo), regAddr b i = 0xFEF0 - 0x10 * b.toNat + i.toNat ∧
    (regAddr b i = regAddr c j → b = c ∧ i = j)) ∧
  (∀ (p : Psw) (i j : RegNo) (v : Byte) (s : State), s.mem.wf = true →
    readReg p j (writeReg p i v s) = (if i = j then v else readReg p j s) ∧
    OnlyCells [regAddr p.rbs i] s (writeReg p i v s) ∧
    writeByte (BitVec.ofNat 16 (regAddr p.rbs i)) v s = .ok (writeReg p i v s)) ∧
  (∀ (p : Psw) (k j : PairNo) (w : Word) (s : State), s.mem.wf = true →
    (readPair p k s).toNat = 256 * (readReg p (BitVec.ofNat 4 (2 * k.toNat + 1)) s).toNat +
      (readReg p (BitVec.ofNat 4 (2 * k.toNat)) s).toNat ∧
    readPair p j (writePair p k w s) = (if k = j then w else readPair p j s) ∧
    OnlyCells (pairCells p k) s (writePair p k w s))

/-- The functional names and how they follow RSS (R23, R24, log 11), and the addresses of saddr, sfr, saddrp and sfrp offsets (R52, R92,
R93, R95; SP and PSW refused, log 37). -/
def Obligations.NamesAndShortAddresses : Prop :=
  (∀ p : Psw, p.rss = false →
    p.regX = 0#4 ∧ p.regA = 1#4 ∧ p.regC = 2#4 ∧ p.regB = 3#4 ∧ p.accumulator = 0#3) ∧
  (∀ p : Psw, p.rss = true →
    p.regX = 4#4 ∧ p.regA = 5#4 ∧ p.regC = 6#4 ∧ p.regB = 7#4 ∧ p.accumulator = 2#3) ∧
  (pairVp = 4#3 ∧ pairUp = 5#3 ∧ pairDe = 6#3 ∧ pairHl = 7#3) ∧
  (∀ off : Byte,
    let words := [0x08, 0x0A, 0x0C, 0x0E, 0x10, 0x12, 0x14, 0x16, 0x1C, 0x1E, 0x88, 0x8A, 0x8C, 0x8E]
    (saddr off).toNat = (if 0x20 ≤ off.toNat then 0xFE00 + off.toNat else 0xFF00 + off.toNat) ∧
    sfrAddr off = (if off.toNat < 0xFC then .ok (BitVec.ofNat 16 (0xFF00 + off.toNat)) else .error (.refusal (.spPswOperand off))) ∧
    saddrpAddr off =
      (if off.toNat % 2 = 1 then .error (.refusal (.oddWordOffset off))
       else if 0x20 ≤ off.toNat ∨ off.toNat ∈ words then .ok (saddr off) else .error (.refusal (.notWordSfr off))) ∧
    sfrpAddr off =
      (if 0xFC ≤ off.toNat then .error (.refusal (.spPswOperand off))
       else if off.toNat % 2 = 1 then .error (.refusal (.oddWordOffset off))
       else if off.toNat ∈ words then .ok (BitVec.ofNat 16 (0xFF00 + off.toNat)) else .error (.refusal (.notWordSfr off))))

/-- The effective address of each memory operand mod 10000H, 8-bit offsets zero extended (log 17), and the pointer update of the
autoincrement and autodecrement forms (R101 to R104, log 40). -/
def Obligations.MemoryOperandAddresses : Prop :=
  ∀ (m : MemOperand) (s : State),
    let de := (readPair s.psw 6#3 s).toNat
    let hl := (readPair s.psw 7#3 s).toNat
    let vp := (readPair s.psw 4#3 s).toNat
    let up := (readPair s.psw 5#3 s).toNat
    let a := (readReg s.psw s.psw.regA s).toNat
    let b := (readReg s.psw s.psw.regB s).toNat
    (effectiveAddress m s).toNat =
      (match m with
       | .deInc | .deDec | .de => de
       | .hlInc | .hlDec | .hl => hl
       | .vp => vp
       | .up => up
       | .deA => de + a
       | .hlA => hl + a
       | .deB => de + b
       | .hlB => hl + b
       | .vpDe => vp + de
       | .vpHl => vp + hl
       | .deByte v => de + v.toNat
       | .spByte v => s.sp.toNat + v.toNat
       | .hlByte v => hl + v.toNat
       | .upByte v => up + v.toNat
       | .vpByte v => vp + v.toNat
       | .wordDe w => w.toNat + de
       | .wordA w => w.toNat + a
       | .wordHl w => w.toNat + hl
       | .wordB w => w.toNat + b) % 0x10000 ∧
    (∀ p, bump p m s =
      (match m with
       | .deInc => writePair p 6#3 (readPair p 6#3 s + 1#16) s
       | .hlInc => writePair p 7#3 (readPair p 7#3 s + 1#16) s
       | .deDec => writePair p 6#3 (readPair p 6#3 s - 1#16) s
       | .hlDec => writePair p 7#3 (readPair p 7#3 s - 1#16) s
       | _ => s))

/-- PSWL and PSWH hold their fields at the places of log 12, a byte written to one of them is read back but for the unused bits of
PSWH, and the two bytes restore the PSW (R32, R33). -/
def Obligations.PswBytesHoldTheFields : Prop :=
  (∀ p : Psw,
    p.low.toNat = 128 * p.s.toNat + 64 * p.z.toNat + 32 * p.rss.toNat + 16 * p.ac.toNat + 8 * p.uf.toNat + 4 * p.pv.toNat +
      2 * p.sub.toNat + p.cy.toNat ∧
    p.high.toNat = 16 * p.rbs.toNat + p.ie.toNat ∧ ∀ q : Psw, q.restore p.low p.high = p) ∧
  (∀ (p : Psw) (v : Byte),
    (p.withLow v).low = v ∧ (p.withLow v).high = p.high ∧ (p.withHigh v).high = v &&& 0x71#8 ∧ (p.withHigh v).low = p.low)

/-- Where an operand may not be accessed the instruction stops as the access does: byte and word moves, exchanges and operations,
whichever of their reads and writes it is (R52, R92, R200(c), log 35, log 37, log 43; the order of the accesses is log 40). -/
def Obligations.OperandStopsStopTheInstruction : Prop :=
  ∀ (i : Instr) (s : State) (e : Stop),
    let stops : Prop := (∀ f, e = .fault f → exec i s = .fault f) ∧ (∀ r, e = .refusal r → exec i s = .refused r)
    (∀ (dst src : ByteOperand),
      let move := ByteMove s.psw i dst src
      let swap := ByteExchange s.psw i dst src
      (move ∨ swap ∨ (∃ op, ByteArith s.psw i op dst src) → src.read 0 s.psw s = .error e → stops) ∧
      ∀ v, src.read 0 s.psw s = .ok v →
        (move → dst.write v s.psw s = .error e → stops) ∧
        (swap ∨ (∃ op, ByteArith s.psw i op dst src) → dst.read 1 s.psw s = .error e → stops) ∧
        ∀ a, dst.read 1 s.psw s = .ok a →
          (swap → src.write a s.psw s = .error e → stops) ∧
          (swap → ∀ u, src.write a s.psw s = .ok u → dst.write v s.psw u = .error e → stops) ∧
          (∀ op, ByteArith s.psw i op dst src → op ≠ .cmp →
            dst.write (aluValue op s.psw.cy a v) s.psw s = .error e → stops)) ∧
    (∀ (dst src : WordOperand),
      let move := WordMove s.psw i dst src
      let swap := WordExchange s.psw i dst src
      (move ∨ swap ∨ (∃ op, WordArith s.psw i op dst src) → src.read 0 s.psw s = .error e → stops) ∧
      ∀ w, src.read 0 s.psw s = .ok w →
        (move → dst.write w s.psw s = .error e → stops) ∧
        (swap ∨ (∃ op, WordArith s.psw i op dst src) → dst.read 1 s.psw s = .error e → stops) ∧
        ∀ a, dst.read 1 s.psw s = .ok a →
          (swap → src.write a s.psw s = .error e → stops) ∧
          (swap → ∀ u, src.write a s.psw s = .ok u → dst.write w s.psw u = .error e → stops) ∧
          (∀ op, WordArith s.psw i op dst src → op ≠ .cmpw →
            dst.write (wordValue op a w) s.psw s = .error e → stops))

/-! ## Data transfer -/

/-- MOV of a byte (18 forms): the source is read, the destination becomes it, nothing else changes (R200 to R224). -/
def Obligations.MovesCopyOneByte : Prop :=
  ∀ (i : Instr) (s u : State) (dst src : ByteOperand) (v : Byte), ByteMove s.psw i dst src →
    src.read 0 s.psw s = .ok v → dst.write v s.psw s = .ok u →
    exec i s = .next (u.withPc (s.after i.length)) ∧ OnlyCells (dst.cells s.psw) s u

/-- XCH (5 forms): both operands are read, then each becomes the other (R225 to R231). -/
def Obligations.ExchangesSwapTwoBytes : Prop :=
  ∀ (i : Instr) (s u w : State) (dst src : ByteOperand) (a b : Byte), ByteExchange s.psw i dst src →
    src.read 0 s.psw s = .ok a → dst.read 1 s.psw s = .ok b →
    src.write b s.psw s = .ok u → dst.write a s.psw u = .ok w →
    exec i s = .next (w.withPc (s.after i.length)) ∧ OnlyCells (src.cells s.psw ++ dst.cells s.psw) s w

/-- MOVW (14 forms, those of SP among them) (R232 to R242, R416 to R418). -/
def Obligations.WordMovesCopyOneWord : Prop :=
  ∀ (i : Instr) (s u : State) (dst src : WordOperand) (w : Word), WordMove s.psw i dst src →
    src.read 0 s.psw s = .ok w → dst.write w s.psw s = .ok u →
    exec i s = .next (u.withPc (s.after i.length)) ∧ OnlyCells (dst.cells s.psw) s u

/-- XCHW (4 forms) (R243 to R246). -/
def Obligations.WordExchangesSwapTwoWords : Prop :=
  ∀ (i : Instr) (s u v : State) (dst src : WordOperand) (a b : Word), WordExchange s.psw i dst src →
    src.read 0 s.psw s = .ok a → dst.read 1 s.psw s = .ok b →
    src.write b s.psw s = .ok u → dst.write a s.psw u = .ok v →
    exec i s = .next (v.withPc (s.after i.length)) ∧ OnlyCells (src.cells s.psw ++ dst.cells s.psw) s v

/-- MOV A,mem and MOV mem,A in both lengths and XCH A,mem: the byte at the effective address, then the pointer update (R101, R210 to
R213, R227, log 40). -/
def Obligations.MemoryMovesUseTheEffectiveAddress : Prop :=
  ∀ (i : Instr) (s : State) (m : MemOperand),
    let ea := effectiveAddress m s
    let acc := regAddr s.psw.rbs s.psw.regA
    (MemLoad i m → ∀ v, readByte 0 ea s = .ok v →
      ∃ t, t = bump s.psw m (writeReg s.psw s.psw.regA v s) ∧ exec i s = .next (t.withPc (s.after i.length)) ∧
        OnlyCells (acc :: pointerCells s.psw m) s t) ∧
    (MemStore i m → ∀ u, writeByte ea (readReg s.psw s.psw.regA s) s = .ok u →
      ∃ t, t = bump s.psw m u ∧ exec i s = .next (t.withPc (s.after i.length)) ∧
        OnlyCells (ea.toNat :: pointerCells s.psw m) s t) ∧
    (MemExchange i m → ∀ v u, readByte 0 ea s = .ok v → writeByte ea (readReg s.psw s.psw.regA s) s = .ok u →
      ∃ t, t = bump s.psw m (writeReg s.psw s.psw.regA v u) ∧ exec i s = .next (t.withPc (s.after i.length)) ∧
        OnlyCells (ea.toNat :: acc :: pointerCells s.psw m) s t)

/-- MOV A,[saddrp], MOV [saddrp],A and XCH A,[saddrp]: the word at saddr(o) is the address of the byte (R94, R221, R222, R230). -/
def Obligations.IndirectMovesUseTheWordAtSaddr : Prop :=
  ∀ (off : Byte) (p a : Addr) (s : State), saddrpAddr off = .ok p → readWord 2 p s = .ok a →
    let acc := readReg s.psw s.psw.regA s
    (∀ v, readByte 0 a s = .ok v →
      exec (.movAIndSaddrp off) s = .next ((writeReg s.psw s.psw.regA v s).withPc (s.after 2))) ∧
    (∀ u, writeByte a acc s = .ok u →
      exec (.movIndSaddrpA off) s = .next (u.withPc (s.after 2)) ∧ OnlyCells [a.toNat] s u) ∧
    (∀ v u, readByte 0 a s = .ok v → writeByte a acc s = .ok u →
      exec (.xchAIndSaddrp off) s = .next ((writeReg s.psw s.psw.regA v u).withPc (s.after 2)) ∧
      OnlyCells [a.toNat, regAddr s.psw.rbs s.psw.regA] s (writeReg s.psw s.psw.regA v u))

/-! ## Arithmetic and logic -/

/-- The 8-bit operations without a memory operand (56 forms): the result over the integers replaces the first operand, but for CMP,
and the six flags are those of R262 to R268; nothing else changes. The sense of parity is log 19, AC after a subtraction log 20. -/
def Obligations.ByteOperationsResultAndFlags : Prop :=
  ∀ (i : Instr) (s : State) (op : AluOp) (dst src : ByteOperand) (a b : Byte), ByteArith s.psw i op dst src →
    src.read 0 s.psw s = .ok b → dst.read 1 s.psw s = .ok a →
    (op = .cmp → exec i s = .next { s with pc := s.after i.length, psw := aluPsw .cmp s.psw.cy a b s.psw }) ∧
    (op ≠ .cmp → ∀ u, dst.write (aluValue op s.psw.cy a b) s.psw s = .ok u →
      exec i s = .next { u with pc := s.after i.length, psw := aluPsw op s.psw.cy a b u.psw } ∧
      OnlyCells (dst.cells s.psw) s u)

/-- The 8-bit operations with a memory operand (16 forms): as the others, then the pointer update, for CMP too (R269; log 19, log
20, log 40). Where the effective address is FFFEH or FFFFH the byte goes into the PSW first and the flags after it, the model's choice,
log 37. -/
def Obligations.MemoryOperationsResultAndFlags : Prop :=
  ∀ (i : Instr) (s : State) (op : AluOp) (toMem : Bool) (m : MemOperand) (x : Byte), MemArith i op toMem m →
    readByte (if toMem then 1 else 0) (effectiveAddress m s) s = .ok x →
    let acc := readReg s.psw s.psw.regA s
    let a := if toMem then x else acc
    let b := if toMem then acc else x
    let dst : ByteOperand := if toMem then .mem (effectiveAddress m s) else .reg s.psw.regA
    (op = .cmp → exec i s =
      .next { bump s.psw m s with pc := s.after i.length, psw := aluPsw .cmp s.psw.cy a b s.psw }) ∧
    (op ≠ .cmp → ∀ u, dst.write (aluValue op s.psw.cy a b) s.psw s = .ok u →
      exec i s = .next { bump s.psw m u with pc := s.after i.length, psw := aluPsw op s.psw.cy a b u.psw } ∧
      OnlyCells (dst.cells s.psw ++ pointerCells s.psw m) s (bump s.psw m u))

/-- ADDW, SUBW and CMPW (21 forms); AC is a free bit (R281 to R283, log 21). -/
def Obligations.WordOperationsResultAndFlags : Prop :=
  ∀ (i : Instr) (s : State) (op : WordOp) (dst src : WordOperand) (a b : Word), WordArith s.psw i op dst src →
    src.read 0 s.psw s = .ok b → dst.read 1 s.psw s = .ok a →
    (op = .cmpw → exec i s = .next { s with pc := s.after i.length, psw := wordPsw .cmpw s.draws a b s.psw }) ∧
    (op ≠ .cmpw → ∀ u, dst.write (wordValue op a b) s.psw s = .ok u →
      exec i s = .next { u with pc := s.after i.length, psw := wordPsw op s.draws a b u.psw } ∧
      OnlyCells (dst.cells s.psw) s u)

/-- INC and DEC of a byte: plus or minus one, all flags but CY (R325 to R328); AC is log 20. -/
def Obligations.ByteStepsResultAndFlags : Prop :=
  ∀ (i : Instr) (s u : State) (up : Bool) (o : ByteOperand) (v : Byte), ByteStep i up o →
    o.read 0 s.psw s = .ok v →
    o.write (if up then BitVec.ofNat 8 (v.toNat + 1) else BitVec.ofInt 8 (v.toNat - 1)) s.psw s = .ok u →
    exec i s = .next { u with pc := s.after i.length, psw := stepPsw up v u.psw } ∧ OnlyCells (o.cells s.psw) s u

/-- INCW and DECW of a pair, of a word at saddr and of SP: encodings, plus or minus one mod 10000H, no flag, an odd offset refused
(R329 to R332, R419, R420). -/
def Obligations.WordStepsChangeOneWord : Prop :=
  (∀ (i : Instr) (s u : State) (up : Bool) (o : WordOperand) (w : Word), WordStep i up o →
    o.read 0 s.psw s = .ok w →
    o.write (if up then BitVec.ofNat 16 (w.toNat + 1) else BitVec.ofInt 16 (w.toNat - 1)) s.psw s = .ok u →
    exec i s = .next (u.withPc (s.after i.length)) ∧ OnlyCells (o.cells s.psw) s u) ∧
  (∀ (off : Byte) (s : State), off.toNat % 2 = 1 →
    exec (.incwSaddrp off) s = .refused (.oddWordOffset off) ∧ exec (.decwSaddrp off) s = .refused (.oddWordOffset off)) ∧
  (∀ rp2 : PointerPair, (pointerPair rp2).toNat = 4 + rp2.code.toNat ∧
    encode (.incwRp2 rp2) = [BitVec.ofNat 8 (0x44 + rp2.code.toNat)] ∧
    encode (.decwRp2 rp2) = [BitVec.ofNat 8 (0x4C + rp2.code.toNat)]) ∧
  (∀ off : Byte, encode (.incwSaddrp off) = [0x07#8, 0xE8#8, off] ∧ encode (.decwSaddrp off) = [0x07#8, 0xE9#8, off]) ∧
  encode .incwSp = [0x05#8, 0xC8#8] ∧ encode .decwSp = [0x05#8, 0xC9#8]

/-- MULU and MULUW: the exact product, in AX or in AX over rp1; where rp1 is AX some value (R321, R323, log 23). -/
def Obligations.MultiplicationIsExact : Prop :=
  (∀ (r1 : Reg8) (s : State), ∃ w : Word,
    w.toNat = (readReg s.psw s.psw.regA s).toNat * (readReg s.psw (reg8 r1) s).toNat ∧
    exec (.muluR1 r1) s = .next ((writePair s.psw s.psw.accumulator w s).withPc (s.after 2))) ∧
  (∀ (k : PairNo) (s : State), k ≠ s.psw.accumulator → ∃ hi lo : Word,
    hi.toNat * 0x10000 + lo.toNat = (readPair s.psw s.psw.accumulator s).toNat * (readPair s.psw k s).toNat ∧
    exec (.muluwRp1 k) s =
      .next ((writePair s.psw k lo (writePair s.psw s.psw.accumulator hi s)).withPc (s.after 2))) ∧
  (∀ s : State, ∃ w : Word,
    exec (.muluwRp1 s.psw.accumulator) s = .next ((writePair s.psw s.psw.accumulator w s).withPc (s.after 2)))

/-- DIVUW and DIVUX: quotient and remainder of the dividend; by zero, and where the divisor's register is a result too, some value
there; the instruction always completes (R322, R324, log 23). -/
def Obligations.DivisionGivesQuotientAndRemainder : Prop :=
  (∀ (r1 : Reg8) (s : State),
    let n := (readPair s.psw s.psw.accumulator s).toNat
    let d := (readReg s.psw (reg8 r1) s).toNat
    ∃ (q : Word) (r : Byte),
      exec (.divuwR1 r1) s = .next ((writeReg s.psw (reg8 r1) r (writePair s.psw s.psw.accumulator q s)).withPc (s.after 2)) ∧
      (d ≠ 0 → q.toNat = n / d ∧ (reg8 r1 ≠ s.psw.regA → reg8 r1 ≠ s.psw.regX → r.toNat = n % d))) ∧
  (∀ (k : PairNo) (s : State),
    let n := (readPair s.psw s.psw.accumulator s).toNat * 0x10000 + (readPair s.psw pairDe s).toNat
    let d := (readPair s.psw k s).toNat
    ∃ (hi lo r : Word),
      exec (.divuxRp1 k) s = .next ((writePair s.psw k r
        (writePair s.psw pairDe lo (writePair s.psw s.psw.accumulator hi s))).withPc (s.after 2)) ∧
      (d ≠ 0 → hi.toNat * 0x10000 + lo.toNat = n / d ∧ (k ≠ s.psw.accumulator → k ≠ pairDe → r.toNat = n % d)))

/-- Rotates and shifts of r1 in closed form, with their flags; by 0 the register and CY keep their values and the marked flags are
free (R340 to R346, log 19, log 22). -/
def Obligations.ByteRotatesAndShifts : Prop :=
  ∀ (i : Instr) (s : State) (op : ShiftOp) (r1 : Reg8) (n : BitVec 3), ByteShift i op r1 n →
    let v := readReg s.psw (reg8 r1) s
    let r := op.value n.toNat v s.psw.cy
    let q := s.psw
    (n ≠ 0#3 → exec i s =
      .next { writeReg q (reg8 r1) r.1 s with
        pc := s.after 2,
        psw :=
          (if op.rotates then { q with pv := evenOnes 8 r.1.toNat, sub := false, cy := r.2 }
           else { q with s := decide (128 ≤ r.1.toNat), z := decide (r.1.toNat = 0), ac := false, pv := evenOnes 8 r.1.toNat,
                         sub := false, cy := r.2 }) }) ∧
    (n = 0#3 → ∃ (x y : Bool × Bool) (ac : Bool), exec i s =
      .next { writeReg q (reg8 r1) v s with
        pc := s.after 2,
        psw :=
          (if op.rotates then { q with pv := x.1, sub := x.2 }
           else { q with pv := x.1, sub := x.2, s := y.1, z := y.2, ac := ac }) })

/-- SHRW and SHLW in closed form, with their flags over 16 bits; by 0 as the byte forms (R340, R347, R348, log 19, log 22). -/
def Obligations.WordShifts : Prop :=
  ∀ (i : Instr) (s : State) (op : ShiftOp) (k : PairNo) (n : BitVec 3), WordShift i op k n →
    let w := readPair s.psw k s
    let r := op.value n.toNat w s.psw.cy
    let q := s.psw
    (n ≠ 0#3 → exec i s =
      .next { writePair q k r.1 s with
        pc := s.after 2,
        psw := { q with s := decide (0x8000 ≤ r.1.toNat), z := decide (r.1.toNat = 0), ac := false,
                        pv := evenOnes 16 r.1.toNat, sub := false, cy := r.2 } }) ∧
    (n = 0#3 → ∃ (x y : Bool × Bool) (ac : Bool), exec i s =
      .next { writePair q k w s with
        pc := s.after 2, psw := { q with pv := x.1, sub := x.2, s := y.1, z := y.2, ac := ac } })

/-- ROR4 and ROL4: encodings; the digits move round A's low digit and the two digits of the byte at rp1, no flag and no pair that
does not hold A changes (R349, R350). -/
def Obligations.DigitRotates : Prop :=
  (∀ (k : PairNo) (s u : State) (m : Byte),
    let p := readPair s.psw k s
    let a := (readReg s.psw s.psw.regA s).toNat
    readByte 0 p s = .ok m →
    (writeByte p (BitVec.ofNat 8 (a % 16 * 16 + m.toNat / 16)) s = .ok u →
      exec (.ror4IndRp1 k) s =
        .next ((writeReg s.psw s.psw.regA (BitVec.ofNat 8 (a / 16 * 16 + m.toNat % 16)) u).withPc (s.after 2)) ∧
      OnlyCells [p.toNat] s u) ∧
    (writeByte p (BitVec.ofNat 8 (m.toNat % 16 * 16 + a % 16)) s = .ok u →
      exec (.rol4IndRp1 k) s =
        .next ((writeReg s.psw s.psw.regA (BitVec.ofNat 8 (a / 16 * 16 + m.toNat / 16)) u).withPc (s.after 2)) ∧
      OnlyCells [p.toNat] s u)) ∧
  (∀ k : PairNo,
    let q := k.toNat % 4 * 2 + k.toNat / 4
    encode (.ror4IndRp1 k) = [0x05#8, BitVec.ofNat 8 (0x88 + q)] ∧ encode (.rol4IndRp1 k) = [0x05#8, BitVec.ofNat 8 (0x98 + q)])

/-- ROR4 and ROL4 are inverses: one after the other on the same address restores A and the byte, and no other byte of memory changes
(R351, derived from R349 and R350). The byte keeps what is stored to it and is not A itself: where A lies at the address, what one of the
two leaves there is what DigitRotates says of A, and they are no inverses. -/
def Obligations.DigitRotatesAreInverses : Prop :=
  ∀ (j k : PairNo) (s : State), s.mem.wf = true →
    let p := readPair s.psw k s
    let acc := regAddr s.psw.rbs s.psw.regA
    plain s p.toNat = true → p.toNat ≠ acc →
    (∃ t, exec (.ror4IndRp1 k) s = .next t ∧ OnlyCells [p.toNat, acc] s (t.withPc s.pc) ∧
      (readPair s.psw j t = p → ∃ u, exec (.rol4IndRp1 j) t = .next u ∧
        u.byte p.toNat = s.byte p.toNat ∧ readReg s.psw s.psw.regA u = readReg s.psw s.psw.regA s ∧ sameBytesBut [] s u)) ∧
    (∃ t, exec (.rol4IndRp1 k) s = .next t ∧ OnlyCells [p.toNat, acc] s (t.withPc s.pc) ∧
      (readPair s.psw j t = p → ∃ u, exec (.ror4IndRp1 j) t = .next u ∧
        u.byte p.toNat = s.byte p.toNat ∧ readReg s.psw s.psw.regA u = readReg s.psw s.psw.regA s ∧ sameBytesBut [] s u))

/-- ADJ4 writes the corrected A and S, Z, P/V from it, keeps SUB, and completes; after an addition or a subtraction of packed digits
with carry A and CY are the decimal result. The correction is the model's choice, log 18, and so are the sense of parity in P/V, log
19, and the AC of the subtraction it corrects, log 20. -/
def Obligations.DecimalAdjustGivesTheDecimalResult : Prop :=
  (∀ s : State,
    let q := s.psw
    let r := adjust4 (readReg q q.regA s) q.cy q.ac q.sub
    exec .adj4 s = .next { writeReg q q.regA r.1 s with
      pc := s.after 1,
      psw := { q with s := decide (128 ≤ r.1.toNat), z := decide (r.1.toNat = 0), pv := evenOnes 8 r.1.toNat, cy := r.2.1,
                      ac := r.2.2 } }) ∧
  (∀ (a b : Byte) (c : Bool) (p : Psw), isBcd a = true → isBcd b = true →
    let f := aluPsw .addc c a b p
    let r := adjust4 (aluValue .addc c a b) f.cy f.ac f.sub
    isBcd r.1 = true ∧ bcdValue r.1 = (bcdValue a + bcdValue b + c.toNat) % 100 ∧
      r.2.1 = decide (100 ≤ bcdValue a + bcdValue b + c.toNat)) ∧
  (∀ (a b : Byte) (c : Bool) (p : Psw), isBcd a = true → isBcd b = true →
    let f := aluPsw .subc c a b p
    let r := adjust4 (aluValue .subc c a b) f.cy f.ac f.sub
    isBcd r.1 = true ∧ (bcdValue r.1 : Int) = ((bcdValue a : Int) - bcdValue b - c.toNat) % 100 ∧
      r.2.1 = decide (bcdValue a < bcdValue b + c.toNat))

/-! ## Bits and the PSW -/

/-- The bit forms with destination CY (36 forms): one byte is read, CY changes and no other flag (R363, R364; the bits of PSW are
log 12). -/
def Obligations.BitFormsIntoCarry : Prop :=
  ∀ (i : Instr) (s : State) (op : CarryOp) (o : ByteOperand) (bit : BitVec 3) (v : Byte),
    CarryBit s.psw i op o bit → o.read 0 s.psw s = .ok v →
    exec i s = .next { s with pc := s.after i.length, psw := { s.psw with cy := op.value s.psw.cy (v.getLsbD bit.toNat) } }

/-- The bit forms whose destination is a bit (24 forms): the byte is written back with that bit replaced and its other bits kept
(R363, R364; the bits of PSW are log 12). -/
def Obligations.BitFormsIntoMemory : Prop :=
  ∀ (i : Instr) (s u : State) (op : BitOp) (o : ByteOperand) (bit : BitVec 3) (v w : Byte),
    BitWrite s.psw i op o bit → o.read 0 s.psw s = .ok v →
    (∀ j, j < 8 → w.getLsbD j = if j = bit.toNat then op.value s.psw.cy (v.getLsbD bit.toNat) else v.getLsbD j) →
    o.write w s.psw s = .ok u →
    exec i s = .next (u.withPc (s.after i.length)) ∧ OnlyCells (o.cells s.psw) s u

/-- SET1 CY, CLR1 CY, NOT1 CY, SWRS, SEL RBn, SEL RBn,ALT, NOP, EI, DI: encodings; they change their fields of the PSW and pc alone
(R519 to R524, R948, R955, R962). -/
def Obligations.ControlInstructionsChangeThePswAlone : Prop :=
  (∀ (i : Instr) (s : State) (q : Psw), PswOnly s.psw i q →
    exec i s = .next { s with pc := s.after i.length, psw := q }) ∧
  encode .set1Cy = [0x41#8] ∧ encode .clr1Cy = [0x40#8] ∧ encode .not1Cy = [0x42#8] ∧ encode .swrs = [0x43#8] ∧
  encode .nop = [0x00#8] ∧ encode .ei = [0x4B#8] ∧ encode .di = [0x4A#8] ∧
  ∀ n : BitVec 3, encode (.selRbn n) = [0x05#8, BitVec.ofNat 8 (0xA8 + n.toNat)] ∧
    encode (.selRbnAlt n) = [0x05#8, BitVec.ofNat 8 (0xB8 + n.toNat)]

/-! ## Calls, returns and the stack -/

/-- The five calls push the address of the next instruction, high byte first, and go to their target; CALLT reads it after the push
from the table that TPF selects, CALL [rp1] before it (R401 to R405, log 13, log 45). A push over SP itself is log 40. -/
def Obligations.CallsPushTheReturnAddress : Prop :=
  ∀ (s u v : State) (i : Instr),
    let ret := s.after i.length
    let w : State := { v with sp := s.sp - 2#16 }
    writeByte (s.sp - 1#16) (Word.hi ret) s = .ok u → writeByte (s.sp - 2#16) (Word.lo ret) u = .ok v →
    (∀ target, DirectCall s i target → exec i s = .next (w.withPc target)) ∧
    (∀ (t5 : BitVec 5) (target : Word), i = .calltAddr5 t5 →
      readWord 0 (BitVec.ofNat 16 ((if (v.byte 0xFF4E).getLsbD 1 then 0x8040 else 0x0040) + 2 * t5.toNat)) w = .ok target →
      exec i s = .next (w.withPc target)) ∧
    (∀ (k : PairNo) (target : Word), i = .callIndRp1 k → readWord 0 (readPair s.psw k s) s = .ok target →
      exec i s = .next (w.withPc target)) ∧
    ((∃ target, DirectCall s i target) ∨ (∃ t5, i = .calltAddr5 t5) ∨ (∃ k, i = .callIndRp1 k) → refetches i s = true) ∧
    OnlyCells [(s.sp - 1#16).toNat, (s.sp - 2#16).toNat] s v

/-- BRK stores PSW and the address of the next instruction below SP, takes pc from 003EH and clears IE; its service is recorded
(R406, R603, R623; the record is the model's choice, log 30, the PSW bytes log 12, a stack over the PSW itself log 37,
over SP itself log 40). -/
def Obligations.BrkEntersThroughItsVector : Prop :=
  ∀ (s t u v w : State) (target : Word),
    writeByte (s.sp - 1#16) s.psw.high s = .ok t → writeByte (s.sp - 2#16) s.psw.low t = .ok u →
    writeByte (s.sp - 3#16) (Word.hi (s.after 1)) u = .ok v → writeByte (s.sp - 4#16) (Word.lo (s.after 1)) v = .ok w →
    readWord 0 0x003E#16 w = .ok target →
    exec .brk s = .next { w with
      sp := s.sp - 4#16, pc := target, psw := { w.psw with ie := false }, service := .software :: s.service } ∧
    OnlyCells [(s.sp - 1#16).toNat, (s.sp - 2#16).toNat, (s.sp - 3#16).toNat, (s.sp - 4#16).toNat] s w

/-- RET pops pc; RETI pops pc and PSW, every byte read before the PSW changes (log 37), and ends the service entered last (R407,
R408, R623, log 12, log 30); both fetch anew (R112, log 41). -/
def Obligations.ReturnsPopTheStack : Prop :=
  ∀ (s : State) (target : Word), readWord 0 s.sp s = .ok target →
    refetches .ret s = true ∧ refetches .reti s = true ∧ exec .ret s = .next { s with pc := target, sp := s.sp + 2#16 } ∧
    (∀ low high, readByte 0 (s.sp + 2#16) s = .ok low → readByte 0 (s.sp + 3#16) s = .ok high →
      ∃ q : Psw, q.low = low ∧ q.high = high &&& 0x71#8 ∧
        exec .reti s = .next { s with
          pc := target, sp := s.sp + 4#16, psw := q, eos := false, service := s.service.tail })

/-- RETI in the routine that a vectored interrupt entered, and RETCS in one that a context-switch interrupt entered, give back pc, SP, PSW
and the service list, whatever was in service before: they end the service entered last (D30, R620, R622 to R624). With nothing in
service they leave it so. The entry sequences are log 29 (in a context switch R4 to R7 are those of the new bank), the service list
log 30. -/
def Obligations.EndOfServiceRemovesOneEntry : Prop :=
  (∀ (s t u : State) (e : Event), s.mem.wf = true → s.run = .running → boundary s = some e →
    (∀ q, e = .maskable q → serviceMode s q = .vector) →
    (∀ j, 1 ≤ j → j ≤ 4 → plain s (s.sp - BitVec.ofNat 16 j).toNat = true) →
    step s = .next t → exec .reti t = .next u →
    u.pc = s.pc ∧ u.sp = s.sp ∧ u.psw = s.psw ∧ u.service = s.service ∧
      sameBytesBut ((List.range 4).map fun j => (s.sp - BitVec.ofNat 16 (j + 1)).toNat) s u) ∧
  (∀ (s t u : State) (q : Source) (w : Addr), s.mem.wf = true → s.run = .running → boundary s = some (.maskable q) →
    serviceMode s q = .context → step s = .next t → exec (.retcsAddr16 w) t = .next u →
    let p := { s.psw with rbs := (s.sources.get q).bank }
    u.pc = s.pc ∧ u.sp = s.sp ∧ u.psw = s.psw ∧ u.service = s.service ∧ readPair p 2#3 u = w ∧
      sameBytesBut (pairCells p 2#3 ++ pairCells p 3#3) s u) ∧
  (∀ (s t : State) (w : Addr), s.service = [] →
    (exec .reti s = .next t → t.service = []) ∧ (exec (.retcsAddr16 w) s = .next t → t.service = []))

/-- PUSH post stores the selected pairs below SP, RP7 first, and POP post loads them, RP0 first (R409, R412, R415, log 16). The
stack lies in memory and not over the active bank. -/
def Obligations.PushAndPopTransferTheSelectedPairs : Prop :=
  ∀ (post : Byte) (s : State), s.mem.wf = true →
    let order := [7#3, 6#3, 5#3, 4#3, 3#3, 2#3, 1#3, 0#3].filter fun k : PairNo => post.getLsbD k.toNat
    let n := order.length
    ((∀ j, 1 ≤ j → j ≤ 2 * n → plain s (s.sp - BitVec.ofNat 16 j).toNat = true ∧
        ∀ r : RegNo, (s.sp - BitVec.ofNat 16 j).toNat ≠ regAddr s.psw.rbs r) →
      ∃ t : State, exec (.pushPost post) s = .next (t.withPc (s.after 2)) ∧ t.sp = s.sp - BitVec.ofNat 16 (2 * n) ∧
        OnlyCells ((List.range (2 * n)).map fun j => (s.sp - BitVec.ofNat 16 (j + 1)).toNat) s { t with sp := s.sp } ∧
        ∀ j k, order[j]? = some k → t.wordAt (s.sp - BitVec.ofNat 16 (2 * j + 2)) = readPair s.psw k s) ∧
    ((∀ j, j < 2 * n → plain s (s.sp + BitVec.ofNat 16 j).toNat = true ∧
        ∀ r : RegNo, (s.sp + BitVec.ofNat 16 j).toNat ≠ regAddr s.psw.rbs r) →
      ∃ t : State, exec (.popPost post) s = .next (t.withPc (s.after 2)) ∧ t.sp = s.sp + BitVec.ofNat 16 (2 * n) ∧
        OnlyCells (order.flatMap (pairCells s.psw)) s { t with sp := s.sp } ∧
        ∀ j k, order.reverse[j]? = some k → readPair s.psw k t = s.wordAt (s.sp + BitVec.ofNat 16 (2 * j)))

/-- POP with the same post byte undoes PUSH: SP, PSW and every register are as before (R412, R415). The stack lies in memory and not
over the active bank. -/
def Obligations.PopUndoesPush : Prop :=
  ∀ (post : Byte) (s t u : State), s.mem.wf = true →
    (∀ j, 1 ≤ j → j ≤ 16 → plain s (s.sp - BitVec.ofNat 16 j).toNat = true ∧
      ∀ r : RegNo, (s.sp - BitVec.ofNat 16 j).toNat ≠ regAddr s.psw.rbs r) →
    exec (.pushPost post) s = .next t → exec (.popPost post) t = .next u →
    u.sp = s.sp ∧ u.psw = s.psw ∧ ∀ k : PairNo, readPair s.psw k u = readPair s.psw k s

/-- PUSHU post and POPU post do the same on the stack of UP, with the PSW in the place of RP5 (R411, R414, R415, log 16). The unused bits
of the stored PSWH are log 12; that POPU restores the whole PSW, flags too, is the manual's own decision (R414, "the whole PSW is
restored", D42); that the pairs it loads after the PSW are those of the bank at its start is log 40. The stack lies in memory and not
over the active bank. -/
def Obligations.UserPushAndPopTransferTheSelectedItems : Prop :=
  ∀ (post : Byte) (s : State), s.mem.wf = true →
    let order := [7#3, 6#3, 5#3, 4#3, 3#3, 2#3, 1#3, 0#3].filter fun k : PairNo => post.getLsbD k.toNat
    let n := order.length
    let up := readPair s.psw 5#3 s
    ((∀ j, 1 ≤ j → j ≤ 2 * n → plain s (up - BitVec.ofNat 16 j).toNat = true ∧
        ∀ r : RegNo, (up - BitVec.ofNat 16 j).toNat ≠ regAddr s.psw.rbs r) →
      ∃ t : State, exec (.pushuPost post) s = .next (t.withPc (s.after 2)) ∧
        readPair s.psw 5#3 t = up - BitVec.ofNat 16 (2 * n) ∧
        OnlyCells (pairCells s.psw 5#3 ++ (List.range (2 * n)).map fun j => (up - BitVec.ofNat 16 (j + 1)).toNat) s t ∧
        ∀ j k, order[j]? = some k →
          t.wordAt (up - BitVec.ofNat 16 (2 * j + 2)) = (if k = 5#3 then s.psw.word else readPair s.psw k s)) ∧
    ((∀ j, j < 2 * n → plain s (up + BitVec.ofNat 16 j).toNat = true ∧
        ∀ r : RegNo, (up + BitVec.ofNat 16 j).toNat ≠ regAddr s.psw.rbs r) →
      ∃ t : State, exec (.popuPost post) s = .next (t.withPc (s.after 2)) ∧
        readPair s.psw 5#3 t = up + BitVec.ofNat 16 (2 * n) ∧
        OnlyCells (pairCells s.psw 5#3 ++ order.flatMap (pairCells s.psw)) s { t with psw := s.psw } ∧
        (5#3 ∉ order → t.psw = s.psw) ∧
        ∀ j k, order.reverse[j]? = some k →
          (k ≠ 5#3 → readPair s.psw k t = s.wordAt (up + BitVec.ofNat 16 (2 * j))) ∧
          (k = 5#3 → t.psw = s.psw.restore (Word.lo (s.wordAt (up + BitVec.ofNat 16 (2 * j))))
            (Word.hi (s.wordAt (up + BitVec.ofNat 16 (2 * j))))))

/-- PUSH PSW stores PSWH over PSWL below SP, POP PSW restores the PSW from there (R410, R413, log 12); a stack over the PSW itself is
log 37, over SP itself log 40. -/
def Obligations.PushPswAndPopPsw : Prop :=
  ∀ s : State,
    (∀ u v, writeByte (s.sp - 1#16) s.psw.high s = .ok u → writeByte (s.sp - 2#16) s.psw.low u = .ok v →
      exec .pushPsw s = .next { v with sp := s.sp - 2#16, pc := s.after 1 } ∧
      OnlyCells [(s.sp - 1#16).toNat, (s.sp - 2#16).toNat] s v) ∧
    (∀ low high, readByte 0 s.sp s = .ok low → readByte 0 (s.sp + 1#16) s = .ok high →
      ∃ q : Psw, q.low = low ∧ q.high = high &&& 0x71#8 ∧
        exec .popPsw s = .next { s with sp := s.sp + 2#16, pc := s.after 1, psw := q })

/-! ## Branches -/

/-- BR !addr16, BR rp1, BR [rp1] and the fifteen relative branches on flags change pc alone: to the target where the condition
holds, else to the next instruction (R440, R446 to R463, log 15). The next instruction is fetched anew exactly when the branch is taken,
wherever it leads (R112, R441, log 41). -/
def Obligations.JumpsAndBranchesChangePcAlone : Prop :=
  (∀ (s : State) (w : Addr) (k : PairNo),
    exec (.brAddr16 w) s = .next { s with pc := w } ∧
    exec (.brRp1 k) s = .next { s with pc := readPair s.psw k s } ∧
    (∀ target, readWord 0 (readPair s.psw k s) s = .ok target → exec (.brIndRp1 k) s = .next { s with pc := target }) ∧
    refetches (.brAddr16 w) s = true ∧ refetches (.brRp1 k) s = true ∧ refetches (.brIndRp1 k) s = true) ∧
  (∀ (i : Instr) (s : State) (cond : Condition) (j : Byte), FlagBranch i cond j →
    exec i s = .next { s with pc := if cond.holds s.psw then s.target i.length j else s.after i.length } ∧
    refetches i s = cond.holds s.psw)

/-- After CMP, SUB, CMPW or SUBW of a and b the compound conditions are the signed and unsigned relations (R443, which the
manual's text itself derives). -/
def Obligations.CompareConditionsAreTheRelations : Prop :=
  (∀ (op : AluOp) (c : Bool) (a b : Byte) (p : Psw), op = .cmp ∨ op = .sub →
    let q := op.flags c a b p
    Condition.lt.holds q = decide (a.toInt < b.toInt) ∧
    Condition.ge.holds q = decide (b.toInt ≤ a.toInt) ∧
    Condition.gt.holds q = decide (b.toInt < a.toInt) ∧
    Condition.le.holds q = decide (a.toInt ≤ b.toInt) ∧
    Condition.c.holds q = decide (a.toNat < b.toNat) ∧
    Condition.nc.holds q = decide (b.toNat ≤ a.toNat) ∧
    Condition.h.holds q = decide (b.toNat < a.toNat) ∧
    Condition.nh.holds q = decide (a.toNat ≤ b.toNat) ∧
    Condition.z.holds q = decide (a = b)) ∧
  (∀ (op : WordOp) (n : Nat) (a b : Word) (p : Psw), op = .cmpw ∨ op = .subw →
    let q := p.arith (alu16 op n a b) op.subtracts
    Condition.lt.holds q = decide (a.toInt < b.toInt) ∧
    Condition.ge.holds q = decide (b.toInt ≤ a.toInt) ∧
    Condition.gt.holds q = decide (b.toInt < a.toInt) ∧
    Condition.le.holds q = decide (a.toInt ≤ b.toInt) ∧
    Condition.c.holds q = decide (a.toNat < b.toNat) ∧
    Condition.nc.holds q = decide (b.toNat ≤ a.toNat) ∧
    Condition.h.holds q = decide (b.toNat < a.toNat) ∧
    Condition.nh.holds q = decide (a.toNat ≤ b.toNat) ∧
    Condition.z.holds q = decide (a = b))

/-- BT and BF (12 forms) test a bit and write nothing; BTCLR and BFSET (12 forms) write the byte back with the bit changed, and only
when they branch (R444, R464 to R487, log 45). The next instruction is fetched anew when they branch (R112, log 41). -/
def Obligations.BitBranches : Prop :=
  ∀ (i : Instr) (s : State) (sense : Bool) (o : ByteOperand) (bit : BitVec 3) (j v : Byte), o.read 0 s.psw s = .ok v →
    let taken := v.getLsbD bit.toNat == sense
    (BitTest s.psw i sense o bit j ∨ BitTestWrite s.psw i sense o bit j → refetches i s = taken) ∧
    (BitTest s.psw i sense o bit j →
      exec i s = .next { s with pc := if taken then s.target i.length j else s.after i.length }) ∧
    (BitTestWrite s.psw i sense o bit j →
      (taken = false → exec i s = .next { s with pc := s.after i.length }) ∧
      (taken = true → ∀ (w : Byte) (u : State),
        (∀ n, n < 8 → w.getLsbD n = if n = bit.toNat then !sense else v.getLsbD n) → o.write w s.psw s = .ok u →
        exec i s = .next { u with pc := s.target i.length j } ∧ OnlyCells (o.cells s.psw) s u))

/-- DBNZ counts its byte down and branches unless it is 0 then, fetching anew; no flag changes (R112, R488, R489, log 15, log 41). -/
def Obligations.CountedBranches : Prop :=
  ∀ (i : Instr) (s u : State) (o : ByteOperand) (j v : Byte), CountBranch s.psw i o j →
    o.read 0 s.psw s = .ok v → o.write (BitVec.ofInt 8 (v.toNat - 1)) s.psw s = .ok u →
    exec i s = .next { u with pc := if v = 1#8 then s.after i.length else s.target i.length j } ∧
      refetches i s = decide (v ≠ 1#8) ∧ OnlyCells (o.cells s.psw) s u

/-! ## Context switch, protected writes, strings -/

/-- BRKCS enters through R5:R4 of bank n, which receives the return address there and the old PSW in R7:R6; the flags, SP and every
other byte stay (R490). RETCS goes to R5:R4 and restores PSW from R7:R6 of the bank it leaves, stores its operand in R5:R4 there,
clears EOS and ends the service; nothing else changes (R491, R624). That R4 to R7 of BRKCS are those of the new bank is a choice, the
manual's own inference (R490, "the spec takes the new bank n", D17) and log 29; services are log 30, the PSW bytes log 12. -/
def Obligations.BrkcsAndRetcsSwitchTheContext : Prop :=
  (∀ (n : BitVec 3) (s : State), s.mem.wf = true →
    let p := { s.psw with rbs := n, rss := false, ie := false }
    ∃ t, exec (.brkcsRbn n) s = .next t ∧ t.pc = readPair p 2#3 s ∧ t.psw = p ∧ readPair p 2#3 t = s.after 2 ∧
      readPair p 3#3 t = s.psw.word ∧ sameBytesBut (pairCells p 2#3 ++ pairCells p 3#3) s t ∧
      queueGrows (pairCells p 2#3 ++ pairCells p 3#3) s t ∧
      t = { s with mem := t.mem, pc := t.pc, psw := p, service := .software :: s.service, prefetch := t.prefetch }) ∧
  (∀ (w : Addr) (s : State), s.mem.wf = true →
    ∃ t, exec (.retcsAddr16 w) s = .next t ∧ t.pc = readPair s.psw 2#3 s ∧
      t.psw.low = readReg s.psw 6#4 s ∧ t.psw.high = readReg s.psw 7#4 s &&& 0x71#8 ∧ readPair s.psw 2#3 t = w ∧
      sameBytesBut (pairCells s.psw 2#3) s t ∧
      queueGrows (pairCells s.psw 2#3) s t ∧
      t = { s with mem := t.mem, pc := t.pc, psw := t.psw, eos := false, service := s.service.tail, prefetch := t.prefetch })

/-- MOV STBC and MOV WDM write their register when the third byte is the complement of the fourth, else nothing; STBC then gives the
run state and WDM restarts the watchdog, which then runs or not as the free Config.wdtRuns says of the byte; no flag changes (R517,
R518, R650, R655, log 24, log 25, log 32). -/
def Obligations.ProtectedWritesNeedTheComplement : Prop :=
  ∀ (check byte : Byte) (s : State),
    (check.toNat + byte.toNat ≠ 255 →
      exec (.movStbcByte check byte) s = .next { s with pc := s.after 4 } ∧
      exec (.movWdmByte check byte) s = .next { s with pc := s.after 4 }) ∧
    (check.toNat + byte.toNat = 255 →
      (exec (.movStbcByte check byte) s = .next { s.setByte 0xFF44 byte with
        pc := s.after 4,
        run := if byte.toNat / 2 % 2 = 1 then .stopped else if byte.toNat % 2 = 1 then .halted else .running }) ∧
      exec (.movWdmByte check byte) s =
        .next { s.setByte 0xFF42 byte with pc := s.after 4, wdtRunning := Config.wdtRuns byte, wdtCount := 0 })

/-- One iteration of MOVM, MOVBK, XCHM and XCHBK: the bytes move, then DE, HL and C, and pc goes on when C is 0; no flag changes (R492
to R500, log 44). XCHBK takes the address of its second store, and each pointer and the count their new values, from the registers as the
accesses before left them, log 40. -/
def Obligations.StringMovesOneIteration : Prop :=
  ∀ (i : Instr) (s : State) (exchanges block up : Bool), s.mem.wf = true → StringMove i exchanges block up →
    let p := s.psw
    let de := readPair p pairDe s
    let hl := readPair p pairHl s
    let acc := readReg p p.regA s
    (exchanges = false → block = false → ∀ u, writeByte de acc s = .ok u →
      ∃ t, exec i s = .next t ∧ EndOfIteration p block up false u t ∧ OnlyCells [de.toNat] s u) ∧
    (exchanges = false → block = true → ∀ v u, readByte 0 hl s = .ok v → writeByte de v s = .ok u →
      ∃ t, exec i s = .next t ∧ EndOfIteration p block up false u t ∧ OnlyCells [de.toNat] s u) ∧
    (exchanges = true → block = false → ∀ x u, readByte 0 de s = .ok x → writeByte de acc s = .ok u →
      ∃ t, exec i s = .next t ∧ EndOfIteration p block up false (writeReg p p.regA x u) t ∧ OnlyCells [de.toNat] s u) ∧
    (exchanges = true → block = true → ∀ x y u v, readByte 0 de s = .ok x → readByte 1 hl s = .ok y →
      writeByte de y s = .ok u → writeByte (readPair p pairHl u) x u = .ok v →
      ∃ t, exec i s = .next t ∧ EndOfIteration p block up false v t ∧
        OnlyCells [de.toNat, (readPair p pairHl u).toNat] s v)

/-- One iteration of the string compares: the flags of CMP on the byte at DE and A or the byte at HL, then DE, HL and C; pc goes on
when C is 0 or the end condition holds of the new flags; nothing is stored (R492, R501 to R516, log 20, log 44). -/
def Obligations.StringComparesOneIteration : Prop :=
  ∀ (i : Instr) (s : State) (a b : Byte), s.mem.wf = true → readByte 0 (readPair s.psw pairDe s) s = .ok a →
    let q := aluPsw .cmp s.psw.cy a b s.psw
    ∀ block up ending, StringCompare i block up ending →
      (block = false → b = readReg s.psw s.psw.regA s) → (block = true → readByte 1 (readPair s.psw pairHl s) s = .ok b) →
      ∃ t, exec i s = .next t ∧ EndOfIteration s.psw block up (ending.holds q) { s with psw := q } t

/-! ## Exceptions, interrupts, standby, reset -/

/-- RETI after BRK restores pc to the instruction after the BRK, PSW, SP, the service list and every byte outside the stack, which
lies in memory; RETCS after BRKCS does so but for R4 to R7 of the bank, whose R5:R4 holds the operand of RETCS (R406, R408, R490,
R491, R623, R624). That R4 to R7 are those of the new bank is a choice, the manual's own inference (R490, D17) and log 29; the service
list is log 30, the PSW bytes log 12. -/
def Obligations.ReturnsUndoTheirEntries : Prop :=
  (∀ (s t u : State), s.mem.wf = true → (∀ j, 1 ≤ j → j ≤ 4 → plain s (s.sp - BitVec.ofNat 16 j).toNat = true) →
    exec .brk s = .next t → exec .reti t = .next u →
    u = { s with mem := u.mem, pc := s.after 1, eos := false, prefetch := u.prefetch } ∧
    sameBytesBut ((List.range 4).map fun j => (s.sp - BitVec.ofNat 16 (j + 1)).toNat) s u) ∧
  (∀ (n : BitVec 3) (w : Addr) (s t u : State), s.mem.wf = true →
    exec (.brkcsRbn n) s = .next t → exec (.retcsAddr16 w) t = .next u →
    let p := { s.psw with rbs := n }
    u = { s with mem := u.mem, pc := s.after 2, eos := false, prefetch := u.prefetch } ∧ readPair p 2#3 u = w ∧
    sameBytesBut (pairCells p 2#3 ++ pairCells p 3#3) s u)

/-- The event of an instruction boundary: NMI, then WDT, each unless its own routine is in service; a maskable source only with no
nonmaskable request pending, when it is requested, not masked, enabled by IE (not asked of macroservice) and above every level in
service, and then the one of the lowest level and the lowest default priority (R610, R611, R614, R615, log 27, log 28). -/
def Obligations.BoundaryTakesTheHighestPriority : Prop :=
  ∀ s : State,
    let due (q : Source) : Prop :=
      requested s q = true ∧ masked s q = false ∧ (s.psw.ie = true ∨ serviceMode s q = .macroservice) ∧
        ∀ k, .level k ∈ s.service → (level s q).toNat < k.toNat
    (boundary s = some .nmi ↔ s.nmiPending = true ∧ .nmi ∉ s.service) ∧
    (boundary s = some .wdt ↔
      s.wdtPending = true ∧ .wdt ∉ s.service ∧ ¬ (s.nmiPending = true ∧ .nmi ∉ s.service)) ∧
    (∀ q, boundary s = some (.maskable q) ↔
      s.nmiPending = false ∧ s.wdtPending = false ∧ due q ∧
        ∀ r, due r → (level s q).toNat < (level s r).toNat ∨
          ((level s q).toNat = (level s r).toNat ∧ q.priority ≤ r.priority))

/-- The maskable sources with their vectors, default priorities, control registers, macroservice column and groups (R50, R602, R613; the
groups are log 27), and the vectored entry of an accepted interrupt (R602, R612, R620): the sequence of BRK with the vector of the
source; the request is cleared, the service recorded, at the level of the acceptance, and the routine fetched anew. The sequence is the
model's choice, log 29, the fields log 27, a stack over the PSW itself log 37, over SP itself log 40. -/
def Obligations.VectoredInterruptEntry : Prop :=
  (∀ q : Source, (q.vector, q.priority, q.control, q.canMacro, q.group) =
    match q with
    | .crf00 => (0x001A#16, 0, 0xFFC0, true, Group.counters)
    | .crf01 => (0x001C#16, 1, 0xFFC2, false, Group.counters)
    | .crf10 => (0x001E#16, 2, 0xFFC4, true, Group.counters)
    | .crf11 => (0x0020#16, 3, 0xFFC6, false, Group.counters)
    | .exif0 => (0x0004#16, 4, 0xFFC8, true, Group.external)
    | .exif1 => (0x0006#16, 5, 0xFFCA, true, Group.external)
    | .exif2 => (0x0008#16, 6, 0xFFCC, true, Group.external)
    | .tmf0 => (0x000E#16, 7, 0xFFCE, true, Group.timers)
    | .tmf1 => (0x0010#16, 8, 0xFFD0, true, Group.timers)
    | .tmf2 => (0x0012#16, 9, 0xFFD2, true, Group.timers)
    | .sef => (0x0022#16, 10, 0xFFDA, false, Group.serial)
    | .srf => (0x0024#16, 11, 0xFFDC, true, Group.serial)
    | .stf => (0x0026#16, 12, 0xFFDE, true, Group.serial)
    | .adf => (0x0028#16, 13, 0xFFE0, true, Group.others)
    | .tbf => (0x000C#16, 14, 0xFFE2, false, Group.others)) ∧
  ∀ (s t u v w : State) (vector : Addr) (target : Word), s.run = .running →
    writeByte (s.sp - 1#16) s.psw.high s = .ok t → writeByte (s.sp - 2#16) s.psw.low t = .ok u →
    writeByte (s.sp - 3#16) (Word.hi s.pc) u = .ok v → writeByte (s.sp - 4#16) (Word.lo s.pc) v = .ok w →
    readWord 0 vector w = .ok target →
    let entered (mark : Service) : State := { w with
      sp := s.sp - 4#16, pc := target, psw := { w.psw with ie := false }, service := mark :: s.service, accepted := true }
    (boundary s = some .nmi → vector = 0x0002#16 →
      step s = .next (afterStep true 0 s { entered .nmi with nmiPending := false })) ∧
    (boundary s = some .wdt → vector = 0x000A#16 →
      step s = .next (afterStep true 0 s { entered .wdt with wdtPending := false })) ∧
    (∀ q, boundary s = some (.maskable q) → serviceMode s q = .vector → vector = q.vector →
      step s = .next (afterStep true 0 s { entered (.level (level s q)) with
        sources := w.sources.set q { w.sources.get q with request := false, ended := false, changed := true } }))

/-- The context-switch entry of an accepted interrupt (R612, R622): the sequence of BRKCS with the bank that the source has; the request
is cleared and the service recorded. The sequence, R4 to R7 being those of the new bank, is the model's choice, log 29; the fields are log
27. -/
def Obligations.ContextInterruptEntry : Prop :=
  ∀ (q : Source) (s : State), s.mem.wf = true → s.run = .running →
    boundary s = some (.maskable q) → serviceMode s q = .context →
    let c := s.sources.get q
    let p := { s.psw with rbs := c.bank, rss := false, ie := false }
    ∃ t, step s = .next (afterStep true 0 s t) ∧ t.pc = readPair p 2#3 s ∧ readPair p 2#3 t = s.pc ∧
      readPair p 3#3 t = s.psw.word ∧ sameBytesBut (pairCells p 2#3 ++ pairCells p 3#3) s t ∧
      t = { s with mem := t.mem, pc := t.pc, psw := p, service := .level (level s q) :: s.service, accepted := true, prefetch := t.prefetch,
                   sources := s.sources.set q { c with request := false, ended := false, changed := true } }

/-- Macroservice (R640 to R642, R650, R651): when a request in that mode is taken, in RUN or HALT, it is refused where the platform
gives the source no channel; else one transfer over the channel takes place, after which the request is done, or at count 0 one for the
CPU, every other field of the source but the mode as it was; HALT ends. A transfer moves a byte or a word between the special function
register and memory; then the address moves on where the channel says so, and the count goes down, both as the datum left them. The
channel, what becomes of the mode at count 0 and a datum that goes to SP or PSW are log 31, the fields log 27, the queue log 41; the two
bits of STBC that read 0 after HALT, and that the transfer and the wake-up are one step, are log 25. -/
def Obligations.MacroserviceMovesOneDatum : Prop :=
  (∀ (s : State) (q : Source), s.run ≠ .stopped → boundary s = some (.maskable q) → serviceMode s q = .macroservice →
    match Config.macroservice q.priority with
    | none => step s = .refused (.macroservice q.priority)
    | some ch => ∀ w count, transfer ch s = .ok (w, count) →
        let c := w.sources.get q
        let served (d : SourceState) : State :=
          let t : State := { w with accepted := true, sources := w.sources.set q d }
          if s.run = .halted then { t.setByte 0xFF44 (t.byte 0xFF44 &&& 0xFC#8) with run := .running } else t
        let done : SourceState := { c with request := false, ended := false, changed := true }
        let raised : SourceState :=
          { c with
            request := true, ended := true, changed := true,
            macroservice := c.macroservice && !Config.macroFallsBack q.priority }
        step s = .next (afterStep false s.fetched s (served (if count = 0#8 then raised else done))) ∧
        serviceMode { w with sources := w.sources.set q raised } q = (if c.context then .context else .vector)) ∧
  (∀ (ch : MacroChannel) (s t : State), s.mem.wf = true →
    ch.addrLow ≠ ch.addrHigh → ch.count ≠ ch.addrLow → ch.count ≠ ch.addrHigh →
    let low := 0xFE00 + ch.addrLow.toNat
    let high := 0xFE00 + ch.addrHigh.toNat
    let counter := 0xFE00 + ch.count.toNat
    let addr := Word.ofBytes (s.byte low) (s.byte high)
    let port := BitVec.ofNat 16 (0xFF00 + (s.byte (0xFE00 + ch.sfr.toNat)).toNat)
    let source := if ch.toMemory then port else addr
    let target := if ch.toMemory then addr else port
    ((ch.word = false ∧ ∃ v, readByte 1 source s = .ok v ∧ writeByte target v s = .ok t) ∨
      (ch.word = true ∧ ∃ w, readWord 1 source s = .ok w ∧ writeWord target w s = .ok t)) →
    let size : Nat := if ch.word then 2 else 1
    ∃ u, transfer ch s = .ok (u, t.byte counter - 1#8) ∧ u.byte counter = t.byte counter - 1#8 ∧
      (Word.ofBytes (u.byte low) (u.byte high)).toNat =
        ((Word.ofBytes (t.byte low) (t.byte high)).toNat + if ch.increment then size else 0) % 0x10000 ∧
      sameBytesBut [low, high, counter] t u ∧ queueGrows [low, high, counter] t u ∧
      u = { t with mem := u.mem, prefetch := u.prefetch } ∧
      OnlyCells (target.toNat :: if ch.word then [(target + 1#16).toNat] else []) s t)

/-- In HALT and STOP a step executes no instruction: with an unmasked or nonmaskable request in HALT, with NMI in STOP, it leaves the mode
and the two request bits of STBC read 0; else nothing changes; but a macroservice request that is taken in HALT is served in the step
that ends it (R650, R651, log 25; MacroserviceMovesOneDatum says so). -/
def Obligations.StandbyWaitsForItsWakeUp : Prop :=
  ∀ s : State,
    let wakes : Prop :=
      (s.run = .halted ∧ (s.nmiPending = true ∨ s.wdtPending = true ∨ ∃ q, requested s q = true ∧ masked s q = false)) ∨
      (s.run = .stopped ∧ s.nmiPending = true)
    s.run ≠ .running →
    (s.run = .halted → ∀ q, boundary s = some (.maskable q) → serviceMode s q ≠ .macroservice) →
    (wakes → step s = .next { s.setByte 0xFF44 (s.byte 0xFF44 &&& 0xFC#8) with run := .running, draws := s.draws + 1 }) ∧
    (¬ wakes → step s = .next { s with draws := s.draws + 1 })

/-- What the manual says of the machine after reset (R50, R70, R612, R701): the control registers of Table 1, every maskable source
without request, masked, vectored and of level 7, so that none can be accepted, and pc is the reset word; the reset line keeps RAM and bit 3 of
STBC (R703). What it leaves open is log 1 to log 8, what becomes of the
records of the external area FFB0H to FFBFH among it (log 7). -/
def Obligations.ResetGivesTheStatedValues : Prop :=
  (let s := State.reset
   (∀ a ∈ [0xFFC0, 0xFFC2, 0xFFC4, 0xFFC6, 0xFFC8, 0xFFCA, 0xFFCC, 0xFFCE, 0xFFD0, 0xFFD2, 0xFFDA, 0xFFDC, 0xFFDE, 0xFFE0, 0xFFE2],
      s.byte a = 0x47#8) ∧
   (∀ a ∈ [0xFF20, 0xFF21, 0xFF22, 0xFF23, 0xFF25], s.byte a = 0xFF#8) ∧
   (∀ a ∈ [0xFF42, 0xFF46, 0xFF48, 0xFF4A, 0xFF4E, 0xFF50, 0xFF52, 0xFF53, 0xFF60, 0xFF64, 0xFF66, 0xFF68, 0xFF70, 0xFF72, 0xFF74,
      0xFF7A, 0xFF80, 0xFF82], s.byte a = 0x00#8) ∧
   s.byte 0xFF32 = 0x0F#8 ∧ s.byte 0xFF33 = 0x0F#8 ∧ s.byte 0xFF38 = 0x08#8 ∧ s.byte 0xFF40 = 0x30#8 ∧
   s.byte 0xFF41 = 0x10#8 ∧ s.byte 0xFF44 &&& 0xF7#8 = 0x20#8 ∧ s.run = .running ∧ s.psw.ie = false ∧ s.psw.rbs = 0#3 ∧
   s.psw.rss = false ∧ s.eos = false ∧ s.service = [] ∧ s.nmiPending = false ∧ s.wdtPending = false ∧ boundary s = none ∧
   ∀ q, requested s q = false ∧ masked s q = true ∧ serviceMode s q = .vector ∧ level s q = 7#3) ∧
  (∀ (s t : State), s.mem.wf = true → resetPin s = .ok t →
    (∀ a, a < 0xFF00 → t.byte a = s.byte a) ∧ (∀ a, 0xFF00 ≤ a → a < 0xFFFC → a ≠ 0xFF44 → t.byte a = State.reset.byte a) ∧
    t.byte 0xFF44 = (State.reset.byte 0xFF44 &&& 0xF7#8 ||| s.byte 0xFF44 &&& 0x08#8) ∧
    ((∀ a, a < 2 → place s.board 0x30#8 a ≠ .external .device) → t.pc = s.wordAt 0x0000#16) ∧
    t = { State.reset with mem := t.mem, pc := t.pc, board := s.board, draws := s.draws + 1 })
end

