-- ==== Sys2Proof/Laws/Memory.lean ====
section
/-!
SUPPORT. Laws/Memory.lean: reading after writing, and the canonical form of memory.
-/

namespace Sys2Proof.Machine

@[simp] theorem Memory.get_nil (a : Nat) : Memory.get [] a = resetByte a := rfl

/-- Below the first listed address nothing is listed. -/
theorem Memory.get_below (m : Memory) (lo a : Nat) (h : Memory.wfFrom lo m = true) (ha : a < lo) :
    Memory.get m a = resetByte a := by
  induction m generalizing lo with
  | nil => rfl
  | cons c m ih =>
    obtain ⟨x, v⟩ := c
    simp only [Memory.wfFrom, Bool.and_eq_true, decide_eq_true_eq] at h
    simp only [Memory.get]
    rw [if_neg (by omega)]
    exact ih (x + 1) h.2 (by omega)

/-- A memory of the form from one bound on is of the form from every lower bound on. -/
theorem Memory.wfFrom_mono (m : Memory) (lo lo' : Nat) (h : Memory.wfFrom lo m = true) (hl : lo' ≤ lo) :
    Memory.wfFrom lo' m = true := by
  cases m with
  | nil => rfl
  | cons c m =>
    obtain ⟨x, v⟩ := c
    simp only [Memory.wfFrom, Bool.and_eq_true, decide_eq_true_eq] at h ⊢
    exact ⟨⟨⟨by omega, h.1.1.2⟩, h.1.2⟩, h.2⟩

/-- A write leaves every other address alone, in any memory. -/
theorem Memory.get_set_other (m : Memory) (a b : Nat) (v : Byte) (h : a ≠ b) :
    Memory.get (Memory.set m a v) b = Memory.get m b := by
  induction m with
  | nil => simp only [Memory.set]; split <;> simp [Memory.get, h]
  | cons c m ih =>
    obtain ⟨x, w⟩ := c
    simp only [Memory.set]
    split
    · split <;> simp [Memory.get, h]
    · split
      · subst x; split <;> simp [Memory.get, h]
      · simp only [Memory.get, ih]

/-- A read after a write gives the value written. -/
theorem Memory.get_set_same (m : Memory) (lo a : Nat) (v : Byte) (hm : Memory.wfFrom lo m = true) :
    Memory.get (Memory.set m a v) a = v := by
  induction m generalizing lo with
  | nil => simp only [Memory.set]; split <;> simp_all [Memory.get]
  | cons c m ih =>
    obtain ⟨x, w⟩ := c
    have hc := hm
    simp only [Memory.wfFrom, Bool.and_eq_true, decide_eq_true_eq] at hm
    simp only [Memory.set]
    split
    · split
      · next h1 h2 =>
        simp only [Memory.get]
        rw [if_neg (by omega), Memory.get_below m (x + 1) a hm.2 (by omega), h2]
      · simp [Memory.get]
    · split
      · split
        · next h1 h2 h3 => subst x; rw [Memory.get_below m (a + 1) a hm.2 (by omega), h3]
        · simp [Memory.get]
      · next h1 h2 => simp only [Memory.get]; rw [if_neg h2]; exact ih (x + 1) hm.2

/-- A write below FFFCH keeps the canonical form. -/
theorem Memory.set_wfFrom (m : Memory) (lo a : Nat) (v : Byte) (hm : Memory.wfFrom lo m = true) (hl : lo ≤ a)
    (ha : a < 0xFFFC) : Memory.wfFrom lo (Memory.set m a v) = true := by
  induction m generalizing lo with
  | nil => simp only [Memory.set]; split <;> simp_all [Memory.wfFrom]
  | cons c m ih =>
    obtain ⟨x, w⟩ := c
    have hc := hm
    simp only [Memory.wfFrom, Bool.and_eq_true, decide_eq_true_eq] at hm
    simp only [Memory.set]
    split
    · split
      · exact hc
      · next h1 h2 =>
        simp only [Memory.wfFrom, Bool.and_eq_true, decide_eq_true_eq]
        exact ⟨⟨⟨hl, ha⟩, h2⟩, ⟨⟨by omega, hm.1.1.2⟩, hm.1.2⟩, hm.2⟩
    · split
      · split
        · exact Memory.wfFrom_mono m (x + 1) lo hm.2 (by omega)
        · next h1 h2 h3 =>
          subst x
          simp only [Memory.wfFrom, Bool.and_eq_true, decide_eq_true_eq]
          exact ⟨⟨⟨hl, ha⟩, h3⟩, hm.2⟩
      · next h1 h2 =>
        simp only [Memory.wfFrom, Bool.and_eq_true, decide_eq_true_eq]
        exact ⟨hm.1, ih (x + 1) hm.2 (by omega)⟩

/-- Every memory operation keeps the canonical form. -/
theorem Memory.set_wf (m : Memory) (a : Nat) (v : Byte) (hm : m.wf = true) (ha : a < 0xFFFC) :
    (Memory.set m a v).wf = true := Memory.set_wfFrom m 0 a v hm (Nat.zero_le _) ha

/-- Dropping listed bytes keeps the canonical form. -/
theorem Memory.filter_wfFrom (m : Memory) (lo : Nat) (f : Host.Cell → Bool) (hm : Memory.wfFrom lo m = true) :
    Memory.wfFrom lo (m.filter f) = true := by
  induction m generalizing lo with
  | nil => rfl
  | cons c m ih =>
    obtain ⟨x, w⟩ := c
    simp only [Memory.wfFrom, Bool.and_eq_true, decide_eq_true_eq] at hm
    simp only [List.filter_cons]
    split
    · simp only [Memory.wfFrom, Bool.and_eq_true, decide_eq_true_eq]
      exact ⟨hm.1, ih (x + 1) hm.2⟩
    · exact ih lo (Memory.wfFrom_mono m (x + 1) lo hm.2 (by omega))

/-- The memory after reset has the canonical form. -/
theorem Memory.reset_wf : State.reset.mem.wf = true := rfl

/-- A byte after a byte is stored elsewhere. -/
theorem State.byte_setByte_other (s : State) (a b : Nat) (v : Byte) (h : a ≠ b) : (s.setByte a v).byte b = s.byte b :=
  Memory.get_set_other s.mem a b v h

/-- A byte after it is stored. -/
theorem State.byte_setByte_same (s : State) (a : Nat) (v : Byte) (h : s.mem.wf = true) : (s.setByte a v).byte a = v :=
  Memory.get_set_same s.mem 0 a v h

/-- A byte after any byte is stored. -/
theorem State.byte_setByte (s : State) (a b : Nat) (v : Byte) (h : s.mem.wf = true) :
    (s.setByte a v).byte b = if a = b then v else s.byte b := by
  split
  · next e => subst e; exact State.byte_setByte_same s a v h
  · next e => exact State.byte_setByte_other s a b v e

end Sys2Proof.Machine
end

