-- ==== Sys2Proof/Laws/State.lean ====
section
/-!
SUPPORT. Laws/State.lean: one lemma per field per update of the state, each true by rfl.
-/

namespace Sys2Proof.Machine

/-! ## State.setByte -/

@[simp] theorem State.setByte_mem (s : State) (a : Nat) (v : Byte) : (s.setByte a v).mem = s.mem.set a v := rfl
@[simp] theorem State.setByte_pc (s : State) (a : Nat) (v : Byte) : (s.setByte a v).pc = s.pc := rfl
@[simp] theorem State.setByte_sp (s : State) (a : Nat) (v : Byte) : (s.setByte a v).sp = s.sp := rfl
@[simp] theorem State.setByte_psw (s : State) (a : Nat) (v : Byte) : (s.setByte a v).psw = s.psw := rfl
@[simp] theorem State.setByte_eos (s : State) (a : Nat) (v : Byte) : (s.setByte a v).eos = s.eos := rfl
@[simp] theorem State.setByte_run (s : State) (a : Nat) (v : Byte) : (s.setByte a v).run = s.run := rfl
@[simp] theorem State.setByte_nmiPending (s : State) (a : Nat) (v : Byte) : (s.setByte a v).nmiPending = s.nmiPending := rfl
@[simp] theorem State.setByte_wdtPending (s : State) (a : Nat) (v : Byte) : (s.setByte a v).wdtPending = s.wdtPending := rfl
@[simp] theorem State.setByte_sources (s : State) (a : Nat) (v : Byte) : (s.setByte a v).sources = s.sources := rfl
@[simp] theorem State.setByte_levels (s : State) (a : Nat) (v : Byte) : (s.setByte a v).levels = s.levels := rfl
@[simp] theorem State.setByte_service (s : State) (a : Nat) (v : Byte) : (s.setByte a v).service = s.service := rfl
@[simp] theorem State.setByte_accepted (s : State) (a : Nat) (v : Byte) : (s.setByte a v).accepted = s.accepted := rfl
@[simp] theorem State.setByte_wdtRunning (s : State) (a : Nat) (v : Byte) : (s.setByte a v).wdtRunning = s.wdtRunning := rfl
@[simp] theorem State.setByte_wdtCount (s : State) (a : Nat) (v : Byte) : (s.setByte a v).wdtCount = s.wdtCount := rfl
@[simp] theorem State.setByte_prefetch (s : State) (a : Nat) (v : Byte) : (s.setByte a v).prefetch = s.overwritten a v := rfl
@[simp] theorem State.setByte_fetched (s : State) (a : Nat) (v : Byte) : (s.setByte a v).fetched = s.fetched := rfl
@[simp] theorem State.setByte_draws (s : State) (a : Nat) (v : Byte) : (s.setByte a v).draws = s.draws := rfl
@[simp] theorem State.setByte_board (s : State) (a : Nat) (v : Byte) : (s.setByte a v).board = s.board := rfl

/-! ## State.withPsw -/

@[simp] theorem State.withPsw_mem (s : State) (p : Psw) : (s.withPsw p).mem = s.mem := rfl
@[simp] theorem State.withPsw_pc (s : State) (p : Psw) : (s.withPsw p).pc = s.pc := rfl
@[simp] theorem State.withPsw_sp (s : State) (p : Psw) : (s.withPsw p).sp = s.sp := rfl
@[simp] theorem State.withPsw_psw (s : State) (p : Psw) : (s.withPsw p).psw = p := rfl
@[simp] theorem State.withPsw_eos (s : State) (p : Psw) : (s.withPsw p).eos = s.eos := rfl
@[simp] theorem State.withPsw_run (s : State) (p : Psw) : (s.withPsw p).run = s.run := rfl
@[simp] theorem State.withPsw_nmiPending (s : State) (p : Psw) : (s.withPsw p).nmiPending = s.nmiPending := rfl
@[simp] theorem State.withPsw_wdtPending (s : State) (p : Psw) : (s.withPsw p).wdtPending = s.wdtPending := rfl
@[simp] theorem State.withPsw_sources (s : State) (p : Psw) : (s.withPsw p).sources = s.sources := rfl
@[simp] theorem State.withPsw_levels (s : State) (p : Psw) : (s.withPsw p).levels = s.levels := rfl
@[simp] theorem State.withPsw_service (s : State) (p : Psw) : (s.withPsw p).service = s.service := rfl
@[simp] theorem State.withPsw_accepted (s : State) (p : Psw) : (s.withPsw p).accepted = s.accepted := rfl
@[simp] theorem State.withPsw_wdtRunning (s : State) (p : Psw) : (s.withPsw p).wdtRunning = s.wdtRunning := rfl
@[simp] theorem State.withPsw_wdtCount (s : State) (p : Psw) : (s.withPsw p).wdtCount = s.wdtCount := rfl
@[simp] theorem State.withPsw_prefetch (s : State) (p : Psw) : (s.withPsw p).prefetch = s.prefetch := rfl
@[simp] theorem State.withPsw_fetched (s : State) (p : Psw) : (s.withPsw p).fetched = s.fetched := rfl
@[simp] theorem State.withPsw_draws (s : State) (p : Psw) : (s.withPsw p).draws = s.draws := rfl
@[simp] theorem State.withPsw_board (s : State) (p : Psw) : (s.withPsw p).board = s.board := rfl
@[simp] theorem State.withPsw_byte (s : State) (p : Psw) (b : Nat) : (s.withPsw p).byte b = s.byte b := rfl

/-! ## State.withSp -/

@[simp] theorem State.withSp_mem (s : State) (a : Addr) : (s.withSp a).mem = s.mem := rfl
@[simp] theorem State.withSp_pc (s : State) (a : Addr) : (s.withSp a).pc = s.pc := rfl
@[simp] theorem State.withSp_sp (s : State) (a : Addr) : (s.withSp a).sp = a := rfl
@[simp] theorem State.withSp_psw (s : State) (a : Addr) : (s.withSp a).psw = s.psw := rfl
@[simp] theorem State.withSp_eos (s : State) (a : Addr) : (s.withSp a).eos = s.eos := rfl
@[simp] theorem State.withSp_run (s : State) (a : Addr) : (s.withSp a).run = s.run := rfl
@[simp] theorem State.withSp_nmiPending (s : State) (a : Addr) : (s.withSp a).nmiPending = s.nmiPending := rfl
@[simp] theorem State.withSp_wdtPending (s : State) (a : Addr) : (s.withSp a).wdtPending = s.wdtPending := rfl
@[simp] theorem State.withSp_sources (s : State) (a : Addr) : (s.withSp a).sources = s.sources := rfl
@[simp] theorem State.withSp_levels (s : State) (a : Addr) : (s.withSp a).levels = s.levels := rfl
@[simp] theorem State.withSp_service (s : State) (a : Addr) : (s.withSp a).service = s.service := rfl
@[simp] theorem State.withSp_accepted (s : State) (a : Addr) : (s.withSp a).accepted = s.accepted := rfl
@[simp] theorem State.withSp_wdtRunning (s : State) (a : Addr) : (s.withSp a).wdtRunning = s.wdtRunning := rfl
@[simp] theorem State.withSp_wdtCount (s : State) (a : Addr) : (s.withSp a).wdtCount = s.wdtCount := rfl
@[simp] theorem State.withSp_prefetch (s : State) (a : Addr) : (s.withSp a).prefetch = s.prefetch := rfl
@[simp] theorem State.withSp_fetched (s : State) (a : Addr) : (s.withSp a).fetched = s.fetched := rfl
@[simp] theorem State.withSp_draws (s : State) (a : Addr) : (s.withSp a).draws = s.draws := rfl
@[simp] theorem State.withSp_board (s : State) (a : Addr) : (s.withSp a).board = s.board := rfl
@[simp] theorem State.withSp_byte (s : State) (a : Addr) (b : Nat) : (s.withSp a).byte b = s.byte b := rfl

/-! ## State.withPc -/

@[simp] theorem State.withPc_mem (s : State) (a : Addr) : (s.withPc a).mem = s.mem := rfl
@[simp] theorem State.withPc_pc (s : State) (a : Addr) : (s.withPc a).pc = a := rfl
@[simp] theorem State.withPc_sp (s : State) (a : Addr) : (s.withPc a).sp = s.sp := rfl
@[simp] theorem State.withPc_psw (s : State) (a : Addr) : (s.withPc a).psw = s.psw := rfl
@[simp] theorem State.withPc_eos (s : State) (a : Addr) : (s.withPc a).eos = s.eos := rfl
@[simp] theorem State.withPc_run (s : State) (a : Addr) : (s.withPc a).run = s.run := rfl
@[simp] theorem State.withPc_nmiPending (s : State) (a : Addr) : (s.withPc a).nmiPending = s.nmiPending := rfl
@[simp] theorem State.withPc_wdtPending (s : State) (a : Addr) : (s.withPc a).wdtPending = s.wdtPending := rfl
@[simp] theorem State.withPc_sources (s : State) (a : Addr) : (s.withPc a).sources = s.sources := rfl
@[simp] theorem State.withPc_levels (s : State) (a : Addr) : (s.withPc a).levels = s.levels := rfl
@[simp] theorem State.withPc_service (s : State) (a : Addr) : (s.withPc a).service = s.service := rfl
@[simp] theorem State.withPc_accepted (s : State) (a : Addr) : (s.withPc a).accepted = s.accepted := rfl
@[simp] theorem State.withPc_wdtRunning (s : State) (a : Addr) : (s.withPc a).wdtRunning = s.wdtRunning := rfl
@[simp] theorem State.withPc_wdtCount (s : State) (a : Addr) : (s.withPc a).wdtCount = s.wdtCount := rfl
@[simp] theorem State.withPc_prefetch (s : State) (a : Addr) : (s.withPc a).prefetch = s.prefetch := rfl
@[simp] theorem State.withPc_fetched (s : State) (a : Addr) : (s.withPc a).fetched = s.fetched := rfl
@[simp] theorem State.withPc_draws (s : State) (a : Addr) : (s.withPc a).draws = s.draws := rfl
@[simp] theorem State.withPc_board (s : State) (a : Addr) : (s.withPc a).board = s.board := rfl
@[simp] theorem State.withPc_byte (s : State) (a : Addr) (b : Nat) : (s.withPc a).byte b = s.byte b := rfl

/-! ## State.advance -/

@[simp] theorem State.advance_mem (s : State) (n : Nat) : (s.advance n).mem = s.mem := rfl
@[simp] theorem State.advance_pc (s : State) (n : Nat) : (s.advance n).pc = s.pc + BitVec.ofNat 16 n := rfl
@[simp] theorem State.advance_sp (s : State) (n : Nat) : (s.advance n).sp = s.sp := rfl
@[simp] theorem State.advance_psw (s : State) (n : Nat) : (s.advance n).psw = s.psw := rfl
@[simp] theorem State.advance_eos (s : State) (n : Nat) : (s.advance n).eos = s.eos := rfl
@[simp] theorem State.advance_run (s : State) (n : Nat) : (s.advance n).run = s.run := rfl
@[simp] theorem State.advance_nmiPending (s : State) (n : Nat) : (s.advance n).nmiPending = s.nmiPending := rfl
@[simp] theorem State.advance_wdtPending (s : State) (n : Nat) : (s.advance n).wdtPending = s.wdtPending := rfl
@[simp] theorem State.advance_sources (s : State) (n : Nat) : (s.advance n).sources = s.sources := rfl
@[simp] theorem State.advance_levels (s : State) (n : Nat) : (s.advance n).levels = s.levels := rfl
@[simp] theorem State.advance_service (s : State) (n : Nat) : (s.advance n).service = s.service := rfl
@[simp] theorem State.advance_accepted (s : State) (n : Nat) : (s.advance n).accepted = s.accepted := rfl
@[simp] theorem State.advance_wdtRunning (s : State) (n : Nat) : (s.advance n).wdtRunning = s.wdtRunning := rfl
@[simp] theorem State.advance_wdtCount (s : State) (n : Nat) : (s.advance n).wdtCount = s.wdtCount := rfl
@[simp] theorem State.advance_prefetch (s : State) (n : Nat) : (s.advance n).prefetch = s.prefetch := rfl
@[simp] theorem State.advance_fetched (s : State) (n : Nat) : (s.advance n).fetched = s.fetched := rfl
@[simp] theorem State.advance_draws (s : State) (n : Nat) : (s.advance n).draws = s.draws := rfl
@[simp] theorem State.advance_board (s : State) (n : Nat) : (s.advance n).board = s.board := rfl
@[simp] theorem State.advance_byte (s : State) (n : Nat) (b : Nat) : (s.advance n).byte b = s.byte b := rfl

/-! ## State.program -/

@[simp] theorem State.program_mem (s : State) (q : Source) (v : Byte) : (s.program q v).mem = s.mem := rfl
@[simp] theorem State.program_pc (s : State) (q : Source) (v : Byte) : (s.program q v).pc = s.pc := rfl
@[simp] theorem State.program_sp (s : State) (q : Source) (v : Byte) : (s.program q v).sp = s.sp := rfl
@[simp] theorem State.program_psw (s : State) (q : Source) (v : Byte) : (s.program q v).psw = s.psw := rfl
@[simp] theorem State.program_eos (s : State) (q : Source) (v : Byte) : (s.program q v).eos = s.eos := rfl
@[simp] theorem State.program_run (s : State) (q : Source) (v : Byte) : (s.program q v).run = s.run := rfl
@[simp] theorem State.program_nmiPending (s : State) (q : Source) (v : Byte) : (s.program q v).nmiPending = s.nmiPending := rfl
@[simp] theorem State.program_wdtPending (s : State) (q : Source) (v : Byte) : (s.program q v).wdtPending = s.wdtPending := rfl
@[simp] theorem State.program_sources (s : State) (q : Source) (v : Byte) : (s.program q v).sources = s.sources.set q (q.programmed v) := rfl
@[simp] theorem State.program_levels (s : State) (q : Source) (v : Byte) : (s.program q v).levels = q.programLevel v s.levels := rfl
@[simp] theorem State.program_service (s : State) (q : Source) (v : Byte) : (s.program q v).service = s.service := rfl
@[simp] theorem State.program_accepted (s : State) (q : Source) (v : Byte) : (s.program q v).accepted = s.accepted := rfl
@[simp] theorem State.program_wdtRunning (s : State) (q : Source) (v : Byte) : (s.program q v).wdtRunning = s.wdtRunning := rfl
@[simp] theorem State.program_wdtCount (s : State) (q : Source) (v : Byte) : (s.program q v).wdtCount = s.wdtCount := rfl
@[simp] theorem State.program_prefetch (s : State) (q : Source) (v : Byte) : (s.program q v).prefetch = s.prefetch := rfl
@[simp] theorem State.program_fetched (s : State) (q : Source) (v : Byte) : (s.program q v).fetched = s.fetched := rfl
@[simp] theorem State.program_draws (s : State) (q : Source) (v : Byte) : (s.program q v).draws = s.draws := rfl
@[simp] theorem State.program_board (s : State) (q : Source) (v : Byte) : (s.program q v).board = s.board := rfl
@[simp] theorem State.program_byte (s : State) (q : Source) (v : Byte) (b : Nat) : (s.program q v).byte b = s.byte b := rfl

/-! ## State.updateSource -/

@[simp] theorem State.updateSource_mem (s : State) (q : Source) (f : SourceState → SourceState) : (s.updateSource q f).mem = s.mem := rfl
@[simp] theorem State.updateSource_pc (s : State) (q : Source) (f : SourceState → SourceState) : (s.updateSource q f).pc = s.pc := rfl
@[simp] theorem State.updateSource_sp (s : State) (q : Source) (f : SourceState → SourceState) : (s.updateSource q f).sp = s.sp := rfl
@[simp] theorem State.updateSource_psw (s : State) (q : Source) (f : SourceState → SourceState) : (s.updateSource q f).psw = s.psw := rfl
@[simp] theorem State.updateSource_eos (s : State) (q : Source) (f : SourceState → SourceState) : (s.updateSource q f).eos = s.eos := rfl
@[simp] theorem State.updateSource_run (s : State) (q : Source) (f : SourceState → SourceState) : (s.updateSource q f).run = s.run := rfl
@[simp] theorem State.updateSource_nmiPending (s : State) (q : Source) (f : SourceState → SourceState) : (s.updateSource q f).nmiPending = s.nmiPending := rfl
@[simp] theorem State.updateSource_wdtPending (s : State) (q : Source) (f : SourceState → SourceState) : (s.updateSource q f).wdtPending = s.wdtPending := rfl
@[simp] theorem State.updateSource_sources (s : State) (q : Source) (f : SourceState → SourceState) : (s.updateSource q f).sources = s.sources.set q { f (s.sources.get q) with changed := true } := rfl
@[simp] theorem State.updateSource_levels (s : State) (q : Source) (f : SourceState → SourceState) : (s.updateSource q f).levels = s.levels := rfl
@[simp] theorem State.updateSource_service (s : State) (q : Source) (f : SourceState → SourceState) : (s.updateSource q f).service = s.service := rfl
@[simp] theorem State.updateSource_accepted (s : State) (q : Source) (f : SourceState → SourceState) : (s.updateSource q f).accepted = s.accepted := rfl
@[simp] theorem State.updateSource_wdtRunning (s : State) (q : Source) (f : SourceState → SourceState) : (s.updateSource q f).wdtRunning = s.wdtRunning := rfl
@[simp] theorem State.updateSource_wdtCount (s : State) (q : Source) (f : SourceState → SourceState) : (s.updateSource q f).wdtCount = s.wdtCount := rfl
@[simp] theorem State.updateSource_prefetch (s : State) (q : Source) (f : SourceState → SourceState) : (s.updateSource q f).prefetch = s.prefetch := rfl
@[simp] theorem State.updateSource_fetched (s : State) (q : Source) (f : SourceState → SourceState) : (s.updateSource q f).fetched = s.fetched := rfl
@[simp] theorem State.updateSource_draws (s : State) (q : Source) (f : SourceState → SourceState) : (s.updateSource q f).draws = s.draws := rfl
@[simp] theorem State.updateSource_board (s : State) (q : Source) (f : SourceState → SourceState) : (s.updateSource q f).board = s.board := rfl
@[simp] theorem State.updateSource_byte (s : State) (q : Source) (f : SourceState → SourceState) (b : Nat) : (s.updateSource q f).byte b = s.byte b := rfl

/-! ## State.branch -/

@[simp] theorem State.branch_mem (s : State) (n : Nat) (j : Byte) (t : Bool) : (s.branch n j t).mem = s.mem := rfl
@[simp] theorem State.branch_sp (s : State) (n : Nat) (j : Byte) (t : Bool) : (s.branch n j t).sp = s.sp := rfl
@[simp] theorem State.branch_psw (s : State) (n : Nat) (j : Byte) (t : Bool) : (s.branch n j t).psw = s.psw := rfl
@[simp] theorem State.branch_eos (s : State) (n : Nat) (j : Byte) (t : Bool) : (s.branch n j t).eos = s.eos := rfl
@[simp] theorem State.branch_run (s : State) (n : Nat) (j : Byte) (t : Bool) : (s.branch n j t).run = s.run := rfl
@[simp] theorem State.branch_nmiPending (s : State) (n : Nat) (j : Byte) (t : Bool) : (s.branch n j t).nmiPending = s.nmiPending := rfl
@[simp] theorem State.branch_wdtPending (s : State) (n : Nat) (j : Byte) (t : Bool) : (s.branch n j t).wdtPending = s.wdtPending := rfl
@[simp] theorem State.branch_sources (s : State) (n : Nat) (j : Byte) (t : Bool) : (s.branch n j t).sources = s.sources := rfl
@[simp] theorem State.branch_levels (s : State) (n : Nat) (j : Byte) (t : Bool) : (s.branch n j t).levels = s.levels := rfl
@[simp] theorem State.branch_service (s : State) (n : Nat) (j : Byte) (t : Bool) : (s.branch n j t).service = s.service := rfl
@[simp] theorem State.branch_accepted (s : State) (n : Nat) (j : Byte) (t : Bool) : (s.branch n j t).accepted = s.accepted := rfl
@[simp] theorem State.branch_wdtRunning (s : State) (n : Nat) (j : Byte) (t : Bool) : (s.branch n j t).wdtRunning = s.wdtRunning := rfl
@[simp] theorem State.branch_wdtCount (s : State) (n : Nat) (j : Byte) (t : Bool) : (s.branch n j t).wdtCount = s.wdtCount := rfl
@[simp] theorem State.branch_prefetch (s : State) (n : Nat) (j : Byte) (t : Bool) : (s.branch n j t).prefetch = s.prefetch := rfl
@[simp] theorem State.branch_fetched (s : State) (n : Nat) (j : Byte) (t : Bool) : (s.branch n j t).fetched = s.fetched := rfl
@[simp] theorem State.branch_draws (s : State) (n : Nat) (j : Byte) (t : Bool) : (s.branch n j t).draws = s.draws := rfl
@[simp] theorem State.branch_board (s : State) (n : Nat) (j : Byte) (t : Bool) : (s.branch n j t).board = s.board := rfl
@[simp] theorem State.branch_byte (s : State) (n : Nat) (j : Byte) (t : Bool) (b : Nat) : (s.branch n j t).byte b = s.byte b := rfl

/-! ## writeReg -/

@[simp] theorem writeReg_mem (s : State) (p : Psw) (i : RegNo) (v : Byte) : (writeReg p i v s).mem = s.mem.set (regAddr p.rbs i) v := rfl
@[simp] theorem writeReg_pc (s : State) (p : Psw) (i : RegNo) (v : Byte) : (writeReg p i v s).pc = s.pc := rfl
@[simp] theorem writeReg_sp (s : State) (p : Psw) (i : RegNo) (v : Byte) : (writeReg p i v s).sp = s.sp := rfl
@[simp] theorem writeReg_psw (s : State) (p : Psw) (i : RegNo) (v : Byte) : (writeReg p i v s).psw = s.psw := rfl
@[simp] theorem writeReg_eos (s : State) (p : Psw) (i : RegNo) (v : Byte) : (writeReg p i v s).eos = s.eos := rfl
@[simp] theorem writeReg_run (s : State) (p : Psw) (i : RegNo) (v : Byte) : (writeReg p i v s).run = s.run := rfl
@[simp] theorem writeReg_nmiPending (s : State) (p : Psw) (i : RegNo) (v : Byte) : (writeReg p i v s).nmiPending = s.nmiPending := rfl
@[simp] theorem writeReg_wdtPending (s : State) (p : Psw) (i : RegNo) (v : Byte) : (writeReg p i v s).wdtPending = s.wdtPending := rfl
@[simp] theorem writeReg_sources (s : State) (p : Psw) (i : RegNo) (v : Byte) : (writeReg p i v s).sources = s.sources := rfl
@[simp] theorem writeReg_levels (s : State) (p : Psw) (i : RegNo) (v : Byte) : (writeReg p i v s).levels = s.levels := rfl
@[simp] theorem writeReg_service (s : State) (p : Psw) (i : RegNo) (v : Byte) : (writeReg p i v s).service = s.service := rfl
@[simp] theorem writeReg_accepted (s : State) (p : Psw) (i : RegNo) (v : Byte) : (writeReg p i v s).accepted = s.accepted := rfl
@[simp] theorem writeReg_wdtRunning (s : State) (p : Psw) (i : RegNo) (v : Byte) : (writeReg p i v s).wdtRunning = s.wdtRunning := rfl
@[simp] theorem writeReg_wdtCount (s : State) (p : Psw) (i : RegNo) (v : Byte) : (writeReg p i v s).wdtCount = s.wdtCount := rfl
@[simp] theorem writeReg_prefetch (s : State) (p : Psw) (i : RegNo) (v : Byte) : (writeReg p i v s).prefetch = s.overwritten (regAddr p.rbs i) v := rfl
@[simp] theorem writeReg_fetched (s : State) (p : Psw) (i : RegNo) (v : Byte) : (writeReg p i v s).fetched = s.fetched := rfl
@[simp] theorem writeReg_draws (s : State) (p : Psw) (i : RegNo) (v : Byte) : (writeReg p i v s).draws = s.draws := rfl
@[simp] theorem writeReg_board (s : State) (p : Psw) (i : RegNo) (v : Byte) : (writeReg p i v s).board = s.board := rfl

/-! ## writePair -/

@[simp] theorem writePair_pc (s : State) (p : Psw) (k : PairNo) (w : Word) : (writePair p k w s).pc = s.pc := rfl
@[simp] theorem writePair_sp (s : State) (p : Psw) (k : PairNo) (w : Word) : (writePair p k w s).sp = s.sp := rfl
@[simp] theorem writePair_psw (s : State) (p : Psw) (k : PairNo) (w : Word) : (writePair p k w s).psw = s.psw := rfl
@[simp] theorem writePair_eos (s : State) (p : Psw) (k : PairNo) (w : Word) : (writePair p k w s).eos = s.eos := rfl
@[simp] theorem writePair_run (s : State) (p : Psw) (k : PairNo) (w : Word) : (writePair p k w s).run = s.run := rfl
@[simp] theorem writePair_nmiPending (s : State) (p : Psw) (k : PairNo) (w : Word) : (writePair p k w s).nmiPending = s.nmiPending := rfl
@[simp] theorem writePair_wdtPending (s : State) (p : Psw) (k : PairNo) (w : Word) : (writePair p k w s).wdtPending = s.wdtPending := rfl
@[simp] theorem writePair_sources (s : State) (p : Psw) (k : PairNo) (w : Word) : (writePair p k w s).sources = s.sources := rfl
@[simp] theorem writePair_levels (s : State) (p : Psw) (k : PairNo) (w : Word) : (writePair p k w s).levels = s.levels := rfl
@[simp] theorem writePair_service (s : State) (p : Psw) (k : PairNo) (w : Word) : (writePair p k w s).service = s.service := rfl
@[simp] theorem writePair_accepted (s : State) (p : Psw) (k : PairNo) (w : Word) : (writePair p k w s).accepted = s.accepted := rfl
@[simp] theorem writePair_wdtRunning (s : State) (p : Psw) (k : PairNo) (w : Word) : (writePair p k w s).wdtRunning = s.wdtRunning := rfl
@[simp] theorem writePair_wdtCount (s : State) (p : Psw) (k : PairNo) (w : Word) : (writePair p k w s).wdtCount = s.wdtCount := rfl
@[simp] theorem writePair_fetched (s : State) (p : Psw) (k : PairNo) (w : Word) : (writePair p k w s).fetched = s.fetched := rfl
@[simp] theorem writePair_draws (s : State) (p : Psw) (k : PairNo) (w : Word) : (writePair p k w s).draws = s.draws := rfl
@[simp] theorem writePair_board (s : State) (p : Psw) (k : PairNo) (w : Word) : (writePair p k w s).board = s.board := rfl

/-! ## afterStep and idle -/

@[simp] theorem afterStep_mem (r : Bool) (n : Nat) (s t : State) : (afterStep r n s t).mem = t.mem := rfl
@[simp] theorem afterStep_pc (r : Bool) (n : Nat) (s t : State) : (afterStep r n s t).pc = t.pc := rfl
@[simp] theorem afterStep_sp (r : Bool) (n : Nat) (s t : State) : (afterStep r n s t).sp = t.sp := rfl
@[simp] theorem afterStep_psw (r : Bool) (n : Nat) (s t : State) : (afterStep r n s t).psw = t.psw := rfl
@[simp] theorem afterStep_eos (r : Bool) (n : Nat) (s t : State) : (afterStep r n s t).eos = t.eos := rfl
@[simp] theorem afterStep_run (r : Bool) (n : Nat) (s t : State) : (afterStep r n s t).run = t.run := rfl
@[simp] theorem afterStep_nmiPending (r : Bool) (n : Nat) (s t : State) : (afterStep r n s t).nmiPending = t.nmiPending := rfl
@[simp] theorem afterStep_wdtPending (r : Bool) (n : Nat) (s t : State) : (afterStep r n s t).wdtPending = t.wdtPending := rfl
@[simp] theorem afterStep_sources (r : Bool) (n : Nat) (s t : State) : (afterStep r n s t).sources = t.sources := rfl
@[simp] theorem afterStep_levels (r : Bool) (n : Nat) (s t : State) : (afterStep r n s t).levels = t.levels := rfl
@[simp] theorem afterStep_service (r : Bool) (n : Nat) (s t : State) : (afterStep r n s t).service = t.service := rfl
@[simp] theorem afterStep_accepted (r : Bool) (n : Nat) (s t : State) : (afterStep r n s t).accepted = t.accepted := rfl
@[simp] theorem afterStep_wdtRunning (r : Bool) (n : Nat) (s t : State) : (afterStep r n s t).wdtRunning = t.wdtRunning := rfl
@[simp] theorem afterStep_wdtCount (r : Bool) (n : Nat) (s t : State) : (afterStep r n s t).wdtCount = t.wdtCount := rfl
@[simp] theorem afterStep_prefetch (r : Bool) (n : Nat) (s t : State) : (afterStep r n s t).prefetch = stalePrefetch r n s t := rfl
@[simp] theorem afterStep_fetched (r : Bool) (n : Nat) (s t : State) : (afterStep r n s t).fetched = fetchedAfter r n s t := rfl
@[simp] theorem afterStep_draws (r : Bool) (n : Nat) (s t : State) : (afterStep r n s t).draws = s.draws + 1 := rfl
@[simp] theorem afterStep_board (r : Bool) (n : Nat) (s t : State) : (afterStep r n s t).board = t.board := rfl
@[simp] theorem afterStep_byte (r : Bool) (n : Nat) (s t : State) (b : Nat) : (afterStep r n s t).byte b = t.byte b := rfl
@[simp] theorem idle_mem (s : State) : (idle s).mem = s.mem := rfl
@[simp] theorem idle_pc (s : State) : (idle s).pc = s.pc := rfl
@[simp] theorem idle_sp (s : State) : (idle s).sp = s.sp := rfl
@[simp] theorem idle_psw (s : State) : (idle s).psw = s.psw := rfl
@[simp] theorem idle_eos (s : State) : (idle s).eos = s.eos := rfl
@[simp] theorem idle_run (s : State) : (idle s).run = s.run := rfl
@[simp] theorem idle_nmiPending (s : State) : (idle s).nmiPending = s.nmiPending := rfl
@[simp] theorem idle_wdtPending (s : State) : (idle s).wdtPending = s.wdtPending := rfl
@[simp] theorem idle_sources (s : State) : (idle s).sources = s.sources := rfl
@[simp] theorem idle_levels (s : State) : (idle s).levels = s.levels := rfl
@[simp] theorem idle_service (s : State) : (idle s).service = s.service := rfl
@[simp] theorem idle_accepted (s : State) : (idle s).accepted = s.accepted := rfl
@[simp] theorem idle_wdtRunning (s : State) : (idle s).wdtRunning = s.wdtRunning := rfl
@[simp] theorem idle_wdtCount (s : State) : (idle s).wdtCount = s.wdtCount := rfl
@[simp] theorem idle_prefetch (s : State) : (idle s).prefetch = s.prefetch := rfl
@[simp] theorem idle_fetched (s : State) : (idle s).fetched = s.fetched := rfl
@[simp] theorem idle_draws (s : State) : (idle s).draws = s.draws + 1 := rfl
@[simp] theorem idle_board (s : State) : (idle s).board = s.board := rfl
@[simp] theorem idle_byte (s : State) (b : Nat) : (idle s).byte b = s.byte b := rfl

/-! ## bump: a memory operand's pointer update leaves every field but memory and the prefetch queue -/

@[simp] theorem bump_pc (p : Psw) (m : MemOperand) (s : State) : (bump p m s).pc = s.pc := by cases m <;> rfl
@[simp] theorem bump_sp (p : Psw) (m : MemOperand) (s : State) : (bump p m s).sp = s.sp := by cases m <;> rfl
@[simp] theorem bump_psw (p : Psw) (m : MemOperand) (s : State) : (bump p m s).psw = s.psw := by cases m <;> rfl
@[simp] theorem bump_eos (p : Psw) (m : MemOperand) (s : State) : (bump p m s).eos = s.eos := by cases m <;> rfl
@[simp] theorem bump_run (p : Psw) (m : MemOperand) (s : State) : (bump p m s).run = s.run := by cases m <;> rfl
@[simp] theorem bump_nmiPending (p : Psw) (m : MemOperand) (s : State) : (bump p m s).nmiPending = s.nmiPending := by cases m <;> rfl
@[simp] theorem bump_wdtPending (p : Psw) (m : MemOperand) (s : State) : (bump p m s).wdtPending = s.wdtPending := by cases m <;> rfl
@[simp] theorem bump_sources (p : Psw) (m : MemOperand) (s : State) : (bump p m s).sources = s.sources := by cases m <;> rfl
@[simp] theorem bump_levels (p : Psw) (m : MemOperand) (s : State) : (bump p m s).levels = s.levels := by cases m <;> rfl
@[simp] theorem bump_service (p : Psw) (m : MemOperand) (s : State) : (bump p m s).service = s.service := by cases m <;> rfl
@[simp] theorem bump_accepted (p : Psw) (m : MemOperand) (s : State) : (bump p m s).accepted = s.accepted := by cases m <;> rfl
@[simp] theorem bump_wdtRunning (p : Psw) (m : MemOperand) (s : State) : (bump p m s).wdtRunning = s.wdtRunning := by cases m <;> rfl
@[simp] theorem bump_wdtCount (p : Psw) (m : MemOperand) (s : State) : (bump p m s).wdtCount = s.wdtCount := by cases m <;> rfl
@[simp] theorem bump_fetched (p : Psw) (m : MemOperand) (s : State) : (bump p m s).fetched = s.fetched := by cases m <;> rfl
@[simp] theorem bump_draws (p : Psw) (m : MemOperand) (s : State) : (bump p m s).draws = s.draws := by cases m <;> rfl
@[simp] theorem bump_board (p : Psw) (m : MemOperand) (s : State) : (bump p m s).board = s.board := by cases m <;> rfl

/-! ## The fields of the sources and the levels of the groups -/

/-- The fields of a source after those of a source are replaced. -/
@[simp] theorem Sources.get_set (t : Sources) (q r : Source) (c : SourceState) :
    (t.set q c).get r = if r = q then c else t.get r := by cases q <;> cases r <;> rfl

/-- The level of a group after that of a group is replaced. -/
@[simp] theorem Levels.get_set (t : Levels) (g h : Group) (k : BitVec 3) :
    (t.set g k).get h = if h = g then k else t.get h := by cases g <;> cases h <;> rfl

/-- The level of a group after a control register is written: another group keeps its own. -/
theorem Source.programLevel_other (q : Source) (v : Byte) (t : Levels) {g : Group} (h : q.group ≠ g) :
    (q.programLevel v t).get g = t.get g := by
  unfold Source.programLevel
  split
  · rw [Levels.get_set, if_neg (Ne.symm h)]
  · rfl

end Sys2Proof.Machine
end

