-- ==== Sys2Proof/Laws/Ops.lean ====
section
/-!
SUPPORT. Laws/Ops.lean: for each shared operation over memory, registers, stack and exceptions, what it can do.
-/

namespace Sys2Proof.Machine

/-! ## Outcomes -/

/-- What a bind answers: both parts answer. -/
theorem bind_eq_ok {α β : Type} {x : Except Stop α} {f : α → Except Stop β} {b : β} :
    (x >>= f) = .ok b ↔ ∃ a, x = .ok a ∧ f a = .ok b := by
  cases x with
  | error e => exact ⟨fun h => (by cases h), fun ⟨_, h, _⟩ => (by cases h)⟩
  | ok a => exact ⟨fun h => ⟨a, rfl, h⟩, fun ⟨_, h, h'⟩ => (by cases h; exact h')⟩

@[simp] theorem ok_bind {α β : Type} (a : α) (f : α → Except Stop β) : (Except.ok a >>= f) = f a := rfl

@[simp] theorem error_bind {α β : Type} (e : Stop) (f : α → Except Stop β) : (Except.error e >>= f) = .error e := rfl

@[simp] theorem finish_ok (s : State) : finish (.ok s) = .next s := rfl

@[simp] theorem finish_fault (f : Fault) : finish (.error (.fault f)) = .fault f := rfl

@[simp] theorem finish_refusal (f : Refusal) : finish (.error (.refusal f)) = .refused f := rfl

/-- An instruction answers a next state exactly when its operations do. -/
theorem finish_eq_next (r : Except Stop State) (t : State) : finish r = .next t ↔ r = .ok t := by
  rcases r with (_ | _) | u
  · exact ⟨fun h => (by cases h), fun h => (by cases h)⟩
  · exact ⟨fun h => (by cases h), fun h => (by cases h)⟩
  · exact ⟨fun h => (by cases h; rfl), fun h => (by cases h; rfl)⟩

/-! ## Frames -/

/-- A state whose prefetch queue is the same. -/
theorem queueGrows.of_eq (l : List Nat) {s t : State} (h : t.prefetch = s.prefetch) : queueGrows l s t :=
  ⟨[], by rw [h, List.append_nil], fun _ h => absurd h List.not_mem_nil⟩

theorem queueGrows.mono {l m : List Nat} {s t : State} (h : queueGrows l s t) (hl : ∀ a ∈ l, a ∈ m) : queueGrows m s t :=
  h.imp fun _ ⟨e, hq⟩ => ⟨e, fun c hc => hl _ (hq c hc)⟩

theorem queueGrows.trans {l m : List Nat} {s t u : State} (h : queueGrows l s t) (h' : queueGrows m t u) :
    queueGrows (l ++ m) s u := by
  obtain ⟨q, e, hq⟩ := h
  obtain ⟨q', e', hq'⟩ := h'
  refine ⟨q ++ q', by rw [e', e, List.append_assoc], fun c hc => List.mem_append.2 ?_⟩
  exact (List.mem_append.1 hc).imp (hq c) (hq' c)

/-- Storing a byte can add the byte that its address held. -/
theorem setByte_queue (s : State) (a : Nat) (v : Byte) : queueGrows [a] s (s.setByte a v) := by
  unfold queueGrows
  rw [State.setByte_prefetch, State.overwritten]
  split
  · exact ⟨[], by simp, fun _ h => absurd h List.not_mem_nil⟩
  · exact ⟨[(a, s.byte a)], rfl, by simp⟩

theorem OnlyCells.refl (s : State) : OnlyCells [] s s :=
  ⟨fun _ _ => rfl, rfl, fun _ _ => rfl, fun _ _ => rfl, fun _ _ => rfl, fun _ _ => rfl, .of_eq _ rfl, rfl⟩

/-- A frame over fewer addresses is one over more. -/
theorem OnlyCells.mono {l m : List Nat} {s t : State} (h : OnlyCells l s t) (hl : ∀ a ∈ l, a ∈ m) : OnlyCells m s t :=
  ⟨fun a ha => h.bytes a fun h' => ha (hl a h'), h.pc, fun h1 h2 => h.sp (fun h' => h1 (hl _ h')) fun h' => h2 (hl _ h'),
    fun h1 h2 => h.psw (fun h' => h1 (hl _ h')) fun h' => h2 (hl _ h'), fun q hq => h.sources q fun h' => hq (hl _ h'),
    fun g hg => h.levels g fun q e h' => hg q e (hl _ h'), h.queue.mono hl, h.rest⟩

/-- Two frames in turn. -/
theorem OnlyCells.trans {l m : List Nat} {s t u : State} (h : OnlyCells l s t) (h' : OnlyCells m t u) :
    OnlyCells (l ++ m) s u := by
  refine ⟨fun a ha => ?_, h'.pc.trans h.pc, fun h1 h2 => ?_, fun h1 h2 => ?_, fun q hq => ?_,
    fun g hg => ?_, h.queue.trans h'.queue, ?_⟩
  · rw [List.mem_append, not_or] at ha
    exact (h'.bytes a ha.2).trans (h.bytes a ha.1)
  · rw [List.mem_append, not_or] at h1 h2
    exact (h'.sp h1.2 h2.2).trans (h.sp h1.1 h2.1)
  · rw [List.mem_append, not_or] at h1 h2
    exact (h'.psw h1.2 h2.2).trans (h.psw h1.1 h2.1)
  · rw [List.mem_append, not_or] at hq
    exact (h'.sources q hq.2).trans (h.sources q hq.1)
  · have hg' := fun q e => not_or.1 (List.mem_append.not.1 (hg q e))
    exact (h'.levels g fun q e => (hg' q e).2).trans (h.levels g fun q e => (hg' q e).1)
  · have e := h.rest
    have e' := h'.rest
    unfold sameRest at e e' ⊢
    rw [e', e]

/-- Storing a byte of memory changes that byte only. -/
theorem setByte_only (s : State) (a : Nat) (v : Byte) : OnlyCells [a] s (s.setByte a v) :=
  ⟨fun b hb => State.byte_setByte_other s a b v fun h => hb (by simp [h]), rfl, fun _ _ => rfl, fun _ _ => rfl, fun _ _ => rfl,
    fun _ _ => rfl, setByte_queue s a v, rfl⟩

/-- Writing the control register of a source changes its address, its fields and the level of its group only. -/
theorem program_only (s : State) (q : Source) (v : Byte) : OnlyCells [q.control] s ((s.setByte q.control v).program q v) := by
  refine ⟨(setByte_only s q.control v).bytes, rfl, fun _ _ => rfl, fun _ _ => rfl, fun r hr => ?_, fun g hg => ?_,
    setByte_queue s q.control v, rfl⟩
  · rw [State.program_sources, Sources.get_set, if_neg fun e => hr (by simp [e])]
    rfl
  · rw [State.program_levels, Source.programLevel_other q v _ fun e => hg q e (by simp)]
    rfl

/-! ## Where an address lies -/

/-- What stands at an address depends on the board and MM alone. -/
theorem State.place_congr {s t : State} (hb : t.board = s.board) (hm : t.byte mmAddr = s.byte mmAddr) (a : Nat) :
    t.place a = s.place a := by rw [State.place, State.place, hb, hm]

/-- A store elsewhere than to MM moves no address. -/
theorem setByte_place (s : State) (a b : Nat) (v : Byte) (h : a ≠ mmAddr) : (s.setByte a v).place b = s.place b :=
  State.place_congr (s := s) (t := s.setByte a v) rfl (State.byte_setByte_other s a mmAddr v h) b

/-- The SFR area is the addresses from FF00H up. -/
theorem place_eq_sfr (s : State) (a : Nat) : s.place a = .sfr ↔ 0xFF00 ≤ a := by
  unfold State.place Machine.place
  by_cases hf : 0xFF00 ≤ a
  · simp [hf]
  · simp only [hf, if_false, iff_false]
    split
    · exact fun e => by cases e
    · split
      · exact fun e => by cases e
      · split
        · split <;> exact fun e => by cases e
        · exact fun e => by cases e

/-! ## Byte and word accesses -/

/-- What a byte write in the SFR area can do. -/
theorem writeSfr_ok {a : Nat} {v : Byte} {s t : State} (h : writeSfr a v s = .ok t) :
    (a = 0xFFFC ∧ t = s.withSp (Word.ofBytes v (Word.hi s.sp))) ∨
    (a = 0xFFFD ∧ t = s.withSp (Word.ofBytes (Word.lo s.sp) v)) ∨
    (a = 0xFFFE ∧ t = s.withPsw (s.psw.withLow v)) ∨
    (a = 0xFFFF ∧ t = s.withPsw (s.psw.withHigh v)) ∨
    (∃ q : Source, sfrKind (a - 0xFF00) = some (.control q) ∧ t = (s.setByte a v).program q v) ∨
    (a ≠ 0xFFFC ∧ a ≠ 0xFFFD ∧ a ≠ 0xFFFE ∧ a ≠ 0xFFFF ∧ ∃ kind, sfrKind (a - 0xFF00) = some kind ∧
      kind ≠ .deviceReadOnly ∧ kind ≠ .inService ∧ t = s.setByte a (cellAfter kind (s.byte a) v)) := by
  unfold writeSfr at h
  split at h
  · next e => cases h; exact .inl ⟨e, rfl⟩
  · split at h
    · next e => cases h; exact .inr (.inl ⟨e, rfl⟩)
    · split at h
      · next e => cases h; exact .inr (.inr (.inl ⟨e, rfl⟩))
      · split at h
        · next e => cases h; exact .inr (.inr (.inr (.inl ⟨e, rfl⟩)))
        · next h1 h2 h3 h4 =>
          refine .inr (.inr (.inr (.inr ?_)))
          split at h
          · cases h
          · cases h
          · cases h
          · next q hk => cases h; exact .inl ⟨q, hk, rfl⟩
          · next kind hn hi _ hk => cases h; exact .inr ⟨h1, h2, h3, h4, kind, hk, fun e => hn (e ▸ rfl), fun e => hi (e ▸ rfl), rfl⟩

/-- An SFR offset of Table 1 lies below FCH. -/
theorem sfrKind_lt {off : Nat} {kind : SfrKind} (h : sfrKind off = some kind) : off < 0xFC := by
  by_contra hn
  have e : sfrRow off = none := by
    unfold sfrRow
    rw [if_neg (by omega), if_neg (by omega), if_neg (by omega), if_neg (by omega)]
    apply List.find?_eq_none.2
    intro row hrow
    simp only [sfrInterrupt, List.mem_cons, List.not_mem_nil, or_false] at hrow
    simp only [beq_iff_eq]
    rcases hrow with h | h | h | h | h | h | h | h | h | h | h | h | h | h | h | h | h | h | h | h | h | h | h | h | h | h <;>
      (subst h; simp only; omega)
  unfold sfrKind at h
  rw [if_neg (by omega), e] at h
  cases h

/-- An interrupt control register stands at the address of its source. -/
theorem sfrKind_control {off : Nat} {q : Source} (h : sfrKind off = some (.control q)) : q.control = 0xFF00 + off := by
  have hall : ((List.range 0xFC).all fun o =>
      match sfrKind o with
      | some (.control r) => r.control == 0xFF00 + o
      | _ => true) = true := by decide +kernel
  have ho := List.all_eq_true.1 hall off (List.mem_range.2 (sfrKind_lt h))
  simpa [h] using ho

/-- What a byte write can do: SP or PSW for FFFCH to FFFFH; nothing, in external memory that is read-only; else one byte of memory
below FFFCH, which becomes the byte written but for an SFR, which records what its kind says, and the control register of a source,
which gives it its fields. -/
theorem writeByte_ok {a : Addr} {v : Byte} {s t : State} (h : writeByte a v s = .ok t) :
    (a = 0xFFFC#16 ∧ t = s.withSp (Word.ofBytes v (Word.hi s.sp))) ∨
    (a = 0xFFFD#16 ∧ t = s.withSp (Word.ofBytes (Word.lo s.sp) v)) ∨
    (a = 0xFFFE#16 ∧ t = s.withPsw (s.psw.withLow v)) ∨
    (a = 0xFFFF#16 ∧ t = s.withPsw (s.psw.withHigh v)) ∨
    (s.place a.toNat = .external .readOnly ∧ t = s) ∨
    (a.toNat < 0xFF00 ∧ t = s.setByte a.toNat v) ∨
    (∃ q : Source, a.toNat = q.control ∧ t = (s.setByte q.control v).program q v) ∨
    (0xFF00 ≤ a.toNat ∧ a.toNat < 0xFFFC ∧ ∃ kind, sfrKind (a.toNat - 0xFF00) = some kind ∧ kind ≠ .deviceReadOnly ∧
      kind ≠ .inService ∧ t = s.setByte a.toNat (cellAfter kind (s.byte a.toNat) v)) := by
  unfold writeByte at h
  have hp := place_eq_sfr s a.toNat
  have low : ∀ p, s.place a.toNat = p → p ≠ .sfr → a.toNat < 0xFF00 := fun p e hn => by
    by_contra hf; exact hn (e.symm.trans (hp.2 (by omega)))
  split at h
  · next hs =>
    have hf := hp.1 hs
    rcases writeSfr_ok h with ⟨e, e'⟩ | ⟨e, e'⟩ | ⟨e, e'⟩ | ⟨e, e'⟩ | ⟨q, hk, e'⟩ | ⟨_, _, _, _, kind, hk, hn, hi, e'⟩
    · exact .inl ⟨BitVec.eq_of_toNat_eq e, e'⟩
    · exact .inr (.inl ⟨BitVec.eq_of_toNat_eq e, e'⟩)
    · exact .inr (.inr (.inl ⟨BitVec.eq_of_toNat_eq e, e'⟩))
    · exact .inr (.inr (.inr (.inl ⟨BitVec.eq_of_toNat_eq e, e'⟩)))
    · have e : a.toNat = q.control := by have := sfrKind_control hk; omega
      exact .inr (.inr (.inr (.inr (.inr (.inr (.inl ⟨q, e, e ▸ e'⟩))))))
    · have := sfrKind_lt hk
      exact .inr (.inr (.inr (.inr (.inr (.inr (.inr ⟨hf, by omega, kind, hk, hn, hi, e'⟩))))))
  · next hs => cases h; exact .inr (.inr (.inr (.inr (.inr (.inl ⟨low _ hs nofun, rfl⟩)))))
  · next hs => cases h; exact .inr (.inr (.inr (.inr (.inr (.inl ⟨low _ hs nofun, rfl⟩)))))
  · next hs => cases h; exact .inr (.inr (.inr (.inr (.inr (.inl ⟨low _ hs nofun, rfl⟩)))))
  · next hs => cases h; exact .inr (.inr (.inr (.inr (.inl ⟨hs, rfl⟩))))
  · cases h
  · cases h
  · cases h

/-- The control registers lie in FFC0H to FFE2H. -/
theorem Source.control_range (q : Source) : 0xFFC0 ≤ q.control ∧ q.control ≤ 0xFFE2 := by cases q <;> decide

/-- A byte write changes its own address only. -/
theorem writeByte_only {a : Addr} {v : Byte} {s t : State} (h : writeByte a v s = .ok t) : OnlyCells [a.toNat] s t := by
  rcases writeByte_ok h with ⟨rfl, rfl⟩ | ⟨rfl, rfl⟩ | ⟨rfl, rfl⟩ | ⟨rfl, rfl⟩ | ⟨_, rfl⟩ | ⟨_, rfl⟩ | ⟨q, e, rfl⟩ |
    ⟨_, _, kind, _, _, _, rfl⟩
  · exact ⟨fun _ _ => rfl, rfl, fun h1 _ => absurd (by decide) h1, fun _ _ => rfl, fun _ _ => rfl, fun _ _ => rfl, .of_eq _ rfl, rfl⟩
  · exact ⟨fun _ _ => rfl, rfl, fun _ h2 => absurd (by decide) h2, fun _ _ => rfl, fun _ _ => rfl, fun _ _ => rfl, .of_eq _ rfl, rfl⟩
  · exact ⟨fun _ _ => rfl, rfl, fun _ _ => rfl, fun h1 _ => absurd (by decide) h1, fun _ _ => rfl, fun _ _ => rfl, .of_eq _ rfl, rfl⟩
  · exact ⟨fun _ _ => rfl, rfl, fun _ _ => rfl, fun _ h2 => absurd (by decide) h2, fun _ _ => rfl, fun _ _ => rfl, .of_eq _ rfl, rfl⟩
  · exact (OnlyCells.refl _).mono fun _ h => absurd h (by simp)
  · exact setByte_only s _ _
  · exact e ▸ program_only s q v
  · exact setByte_only s _ _

/-- What a word read answers: two byte reads. -/
theorem readWord_ok {k : Nat} {a : Addr} {s : State} {w : Word} :
    readWord k a s = .ok w ↔
      ∃ lo hi, readByte k a s = .ok lo ∧ readByte k (a + 1#16) s = .ok hi ∧ w = Word.ofBytes lo hi := by
  simp only [readWord, bind_eq_ok, Except.ok.injEq, @eq_comm _ _ w]
  exact ⟨fun ⟨l, hl, h, hh, e⟩ => ⟨l, h, hl, hh, e⟩, fun ⟨l, h, hl, hh, e⟩ => ⟨l, hl, h, hh, e⟩⟩

/-- What a word write can do: two byte writes. -/
theorem writeWord_ok {a : Addr} {w : Word} {s t : State} :
    writeWord a w s = .ok t ↔
      ∃ u, writeByte a (Word.lo w) s = .ok u ∧ writeByte (a + 1#16) (Word.hi w) u = .ok t := by
  simp only [writeWord, bind_eq_ok]

/-- A word write changes its own two addresses only. -/
theorem writeWord_only {a : Addr} {w : Word} {s t : State} (h : writeWord a w s = .ok t) :
    OnlyCells [a.toNat, (a + 1#16).toNat] s t := by
  obtain ⟨u, hu, ht⟩ := writeWord_ok.1 h
  exact (writeByte_only hu).trans (writeByte_only ht)

/-! ## Registers -/

/-- Every register lies in FE80H to FEFFH. -/
theorem regAddr_range (b : BitVec 3) (i : RegNo) : 0xFE80 ≤ regAddr b i ∧ regAddr b i < 0xFF00 := by
  unfold regAddr bankBase
  omega

/-- Two registers of one bank lie at two addresses. -/
theorem regAddr_inj (b : BitVec 3) (i j : RegNo) : regAddr b i = regAddr b j ↔ i = j := by
  unfold regAddr
  constructor
  · intro h; apply BitVec.eq_of_toNat_eq; omega
  · rintro rfl; rfl

/-- A register write changes its own address only. -/
theorem writeReg_only (p : Psw) (i : RegNo) (v : Byte) (s : State) :
    OnlyCells [regAddr p.rbs i] s (writeReg p i v s) := setByte_only s _ v

/-- A register after a register of the same bank is written. -/
theorem readReg_writeReg (p : Psw) (i j : RegNo) (v : Byte) (s : State) (h : s.mem.wf = true) :
    readReg p j (writeReg p i v s) = if i = j then v else readReg p j s := by
  unfold readReg writeReg
  rw [State.byte_setByte s _ _ v h]
  simp only [regAddr_inj]

/-- A pair write changes its own two addresses only. -/
theorem writePair_only (p : Psw) (k : PairNo) (w : Word) (s : State) : OnlyCells (pairCells p k) s (writePair p k w s) :=
  (writeReg_only p (k ++ 0#1) (Word.lo w) s).trans (writeReg_only p (k ++ 1#1) (Word.hi w) _)

/-- A register write keeps the canonical form. -/
theorem writeReg_wf (p : Psw) (i : RegNo) (v : Byte) (s : State) (h : s.mem.wf = true) :
    (writeReg p i v s).mem.wf = true :=
  Memory.set_wf _ _ _ h (by have := (regAddr_range p.rbs i).2; omega)

/-- A pair write keeps the canonical form. -/
theorem writePair_wf (p : Psw) (k : PairNo) (w : Word) (s : State) (h : s.mem.wf = true) :
    (writePair p k w s).mem.wf = true := writeReg_wf _ _ _ _ (writeReg_wf _ _ _ _ h)

/-- A byte write keeps the canonical form. -/
theorem writeByte_wf {a : Addr} {v : Byte} {s t : State} (h : writeByte a v s = .ok t) (hs : s.mem.wf = true) :
    t.mem.wf = true := by
  rcases writeByte_ok h with ⟨rfl, rfl⟩ | ⟨rfl, rfl⟩ | ⟨rfl, rfl⟩ | ⟨rfl, rfl⟩ | ⟨_, rfl⟩ | ⟨_, rfl⟩ | ⟨q, _, rfl⟩ |
    ⟨_, _, _, _, _, _, rfl⟩
  · exact hs
  · exact hs
  · exact hs
  · exact hs
  · exact hs
  · exact Memory.set_wf _ _ _ hs (by omega)
  · exact Memory.set_wf _ _ _ hs (by have := q.control_range; omega)
  · exact Memory.set_wf _ _ _ hs (by omega)

/-- A word write keeps the canonical form. -/
theorem writeWord_wf {a : Addr} {w : Word} {s t : State} (h : writeWord a w s = .ok t) (hs : s.mem.wf = true) :
    t.mem.wf = true := by
  obtain ⟨u, hu, ht⟩ := writeWord_ok.1 h
  exact writeByte_wf ht (writeByte_wf hu hs)

/-- A word is its high byte over its low byte. -/
@[simp] theorem ofBytes_lo_hi (w : Word) : Word.ofBytes (Word.lo w) (Word.hi w) = w := by
  apply BitVec.eq_of_toNat_eq
  have := w.isLt
  simp only [Word.ofBytes, Word.lo, Word.hi, BitVec.toNat_append, BitVec.extractLsb'_toNat, Nat.shiftLeft_eq,
    Nat.shiftRight_eq_div_pow]
  rw [← Nat.shiftLeft_eq, ← Nat.shiftLeft_add_eq_or_of_lt (by omega), Nat.shiftLeft_eq]
  omega

@[simp] theorem lo_ofBytes (l h : Byte) : Word.lo (Word.ofBytes l h) = l := by
  apply BitVec.eq_of_toNat_eq
  have := l.isLt
  have := h.isLt
  simp only [Word.ofBytes, Word.lo, BitVec.toNat_append, BitVec.extractLsb'_toNat, Nat.shiftRight_eq_div_pow]
  rw [← Nat.shiftLeft_add_eq_or_of_lt (by omega), Nat.shiftLeft_eq]
  omega

@[simp] theorem hi_ofBytes (l h : Byte) : Word.hi (Word.ofBytes l h) = h := by
  apply BitVec.eq_of_toNat_eq
  have := l.isLt
  have := h.isLt
  simp only [Word.ofBytes, Word.hi, BitVec.toNat_append, BitVec.extractLsb'_toNat, Nat.shiftRight_eq_div_pow]
  rw [← Nat.shiftLeft_add_eq_or_of_lt (by omega), Nat.shiftLeft_eq]
  omega

/-- A register number made of a pair and a bit determines both. -/
theorem pair_append_inj : ∀ (k j : BitVec 3) (b c : BitVec 1), (k ++ b = j ++ c) ↔ (k = j ∧ b = c) := by decide

/-- A pair after a pair of the same bank is written. -/
theorem readPair_writePair (p : Psw) (k j : PairNo) (w : Word) (s : State) (h : s.mem.wf = true) :
    readPair p j (writePair p k w s) = if k = j then w else readPair p j s := by
  have h' := writeReg_wf p (k ++ 0#1) (Word.lo w) s h
  unfold readPair writePair
  rw [readReg_writeReg _ _ _ _ _ h', readReg_writeReg _ _ _ _ _ h', readReg_writeReg _ _ _ _ _ h,
    readReg_writeReg _ _ _ _ _ h]
  simp only [pair_append_inj]
  by_cases hk : k = j
  · subst hk; simp
  · simp [hk]

/-! ## Stack -/

/-- What storing a word below a pointer can do: two byte writes, the high byte first. -/
theorem pushAt_ok {a : Addr} {w : Word} {s t : State} :
    pushAt a w s = .ok t ↔
      ∃ u, writeByte (a - 1#16) (Word.hi w) s = .ok u ∧ writeByte (a - 2#16) (Word.lo w) u = .ok t := by
  simp only [pushAt, bind_eq_ok]

/-- What a push can do. -/
theorem push_ok {w : Word} {s t : State} :
    push w s = .ok t ↔
      ∃ u v, writeByte (s.sp - 1#16) (Word.hi w) s = .ok u ∧ writeByte (s.sp - 2#16) (Word.lo w) u = .ok v ∧
        t = v.withSp (s.sp - 2#16) := by
  simp only [push, pushAt, bind_eq_ok, Except.ok.injEq, @eq_comm _ _ t]
  exact ⟨fun ⟨v, ⟨u, hu, hv⟩, e⟩ => ⟨u, v, hu, hv, e⟩, fun ⟨u, v, hu, hv, e⟩ => ⟨v, ⟨u, hu, hv⟩, e⟩⟩

/-- Storing a word below a pointer changes its own two addresses only. -/
theorem pushAt_only {a : Addr} {w : Word} {s t : State} (h : pushAt a w s = .ok t) :
    OnlyCells [(a - 1#16).toNat, (a - 2#16).toNat] s t := by
  obtain ⟨u, hu, ht⟩ := pushAt_ok.1 h
  exact (writeByte_only hu).trans (writeByte_only ht)

/-- Storing a word below a pointer keeps the canonical form. -/
theorem pushAt_wf {a : Addr} {w : Word} {s t : State} (h : pushAt a w s = .ok t) (hs : s.mem.wf = true) :
    t.mem.wf = true := by
  obtain ⟨u, hu, ht⟩ := pushAt_ok.1 h
  exact writeByte_wf ht (writeByte_wf hu hs)

/-! ## Entering an exception and returning from it -/

/-- What a vectored entry can do: PSW and the return address are stored below SP, the vector is read, the registers of the
CPU follow. -/
theorem enterVector_ok {vector ret : Addr} {mark : Service} {s t : State} :
    enterVector vector ret mark s = .ok t ↔
      ∃ u v target, pushAt s.sp s.psw.word s = .ok u ∧ pushAt (s.sp - 2#16) ret u = .ok v ∧
        readWord 0 vector v = .ok target ∧
        t = { v with sp := s.sp - 4#16, pc := target, psw := { v.psw with ie := false }, service := mark :: v.service } := by
  simp only [enterVector, bind_eq_ok, Except.ok.injEq, @eq_comm _ _ t]
  exact ⟨fun ⟨u, hu, v, hv, w, hw, e⟩ => ⟨u, v, w, hu, hv, hw, e⟩, fun ⟨u, v, w, hu, hv, hw, e⟩ => ⟨u, hu, v, hv, w, hw, e⟩⟩

/-- What a return from a vectored entry can do. -/
theorem returnVector_ok {s t : State} :
    returnVector s = .ok t ↔
      ∃ target low high, readWord 0 s.sp s = .ok target ∧ readByte 0 (s.sp + 2#16) s = .ok low ∧
        readByte 0 (s.sp + 3#16) s = .ok high ∧
        t = { s with pc := target, psw := s.psw.restore low high, sp := s.sp + 4#16, eos := false,
                     service := endService s.service } := by
  simp only [returnVector, bind_eq_ok, Except.ok.injEq, @eq_comm _ _ t]
  exact ⟨fun ⟨a, ha, b, hb, c, hc, e⟩ => ⟨a, b, c, ha, hb, hc, e⟩, fun ⟨a, b, c, ha, hb, hc, e⟩ => ⟨a, ha, b, hb, c, hc, e⟩⟩

/-- What a context-switch entry does to memory: R4 to R7 of the new bank. -/
theorem enterBank_mem (bank : BitVec 3) (ret : Addr) (mark : Service) (s : State) :
    (enterBank bank ret mark s).mem =
      (writePair { s.psw with rbs := bank, rss := false, ie := false } 3#3 s.psw.word
        (writePair { s.psw with rbs := bank, rss := false, ie := false } 2#3 ret s)).mem := rfl

/-- What a return from a context-switch entry does to memory: R4 and R5 of the bank being left. -/
theorem returnBank_mem (rearm : Addr) (s : State) : (returnBank rearm s).mem = (writePair s.psw 2#3 rearm s).mem := rfl

/-- The protected write changes its own address only. -/
theorem guardedWrite_only (a : Nat) (check v : Byte) (s : State) : OnlyCells [a] s (guardedWrite a check v s) := by
  unfold guardedWrite
  split
  · exact setByte_only s a v
  · exact (OnlyCells.refl s).mono fun _ h => absurd h (by simp)

end Sys2Proof.Machine
end

