-- ==== Sys2Proof/Laws/Operands.lean ====
section
/-!
SUPPORT. Laws/Operands.lean: what reading and writing an operand can do.
-/

namespace Sys2Proof.Machine

/-- The address of an `sfr` operand. -/
theorem sfrAddr_ok {off : Byte} {a : Addr} (h : sfrAddr off = .ok a) :
    a = 0xFF#8 ++ off ∧ off.toNat < 0xFC ∧ a.toNat = 0xFF00 + off.toNat := by
  unfold sfrAddr at h
  split at h
  · cases h
  · cases h
    refine ⟨rfl, by omega, ?_⟩
    simp only [BitVec.toNat_append]
    have := off.isLt
    rw [← Nat.shiftLeft_add_eq_or_of_lt (by omega), Nat.shiftLeft_eq]
    simp

/-- The address of a `saddrp` operand. -/
theorem saddrpAddr_ok {off : Byte} {a : Addr} (h : saddrpAddr off = .ok a) :
    a = saddr off ∧ off.getLsbD 0 = false ∧ (off.toNat < 0x20 → isWordSfr off.toNat = true) := by
  unfold saddrpAddr at h
  split at h
  · cases h
  · split at h
    · cases h
    · cases h; simp_all

/-- The address of an `sfrp` operand. -/
theorem sfrpAddr_ok {off : Byte} {a : Addr} (h : sfrpAddr off = .ok a) :
    a = 0xFF#8 ++ off ∧ off.toNat < 0xFC ∧ off.getLsbD 0 = false ∧ isWordSfr off.toNat = true ∧
      a.toNat = 0xFF00 + off.toNat ∧ (a + 1#16).toNat = 0xFF01 + off.toNat := by
  unfold sfrpAddr at h
  split at h
  · cases h
  · split at h
    · cases h
    · split at h
      · cases h
      · cases h
        have := off.isLt
        have e : (0xFF#8 ++ off).toNat = 0xFF00 + off.toNat := by
          simp only [BitVec.toNat_append]
          rw [← Nat.shiftLeft_add_eq_or_of_lt (by omega), Nat.shiftLeft_eq]
          simp
        refine ⟨rfl, by omega, by simp_all, by simp_all, e, ?_⟩
        rw [BitVec.toNat_add, e]
        simp
        omega

/-- Writing a byte operand changes its own address only. -/
theorem ByteOperand.write_only {o : ByteOperand} {v : Byte} {p : Psw} {s t : State} (h : o.write v p s = .ok t) :
    OnlyCells (o.cells p) s t := by
  cases o with
  | imm _ => cases h; exact OnlyCells.refl s
  | reg r => cases h; exact writeReg_only p r v s
  | saddr off => exact writeByte_only h
  | sfr off =>
    obtain ⟨a, ha, hw⟩ := bind_eq_ok.1 h
    obtain ⟨-, -, e⟩ := sfrAddr_ok ha
    simpa only [cells, ← e] using writeByte_only hw
  | mem a => exact writeByte_only h
  | pswl =>
    cases h
    exact ⟨fun _ _ => rfl, rfl, fun _ _ => rfl, fun h1 _ => absurd (by simp [cells]) h1, fun _ _ => rfl, fun _ _ => rfl, .of_eq _ rfl,
      rfl⟩
  | pswh =>
    cases h
    exact ⟨fun _ _ => rfl, rfl, fun _ _ => rfl, fun _ h2 => absurd (by simp [cells]) h2, fun _ _ => rfl, fun _ _ => rfl, .of_eq _ rfl,
      rfl⟩

/-- Writing a byte operand keeps the canonical form. -/
theorem ByteOperand.write_wf {o : ByteOperand} {v : Byte} {p : Psw} {s t : State} (h : o.write v p s = .ok t)
    (hs : s.mem.wf = true) : t.mem.wf = true := by
  cases o with
  | imm _ => cases h; exact hs
  | reg r => cases h; exact writeReg_wf p r v s hs
  | saddr off => exact writeByte_wf h hs
  | sfr off => obtain ⟨a, _, hw⟩ := bind_eq_ok.1 h; exact writeByte_wf hw hs
  | mem a => exact writeByte_wf h hs
  | pswl => cases h; exact hs
  | pswh => cases h; exact hs

/-- Writing a word operand changes its own two addresses only. -/
theorem WordOperand.write_only {o : WordOperand} {w : Word} {p : Psw} {s t : State} (h : o.write w p s = .ok t) :
    OnlyCells (o.cells p) s t := by
  cases o with
  | imm _ => cases h; exact OnlyCells.refl s
  | pair k => cases h; exact writePair_only p k w s
  | saddrp off =>
    obtain ⟨a, ha, hw⟩ := bind_eq_ok.1 h
    obtain ⟨rfl, -⟩ := saddrpAddr_ok ha
    exact writeWord_only hw
  | sfrp off =>
    obtain ⟨a, ha, hw⟩ := bind_eq_ok.1 h
    obtain ⟨-, -, -, -, e, e'⟩ := sfrpAddr_ok ha
    simpa only [cells, ← e, ← e'] using writeWord_only hw
  | mem a => exact writeWord_only h
  | sp =>
    cases h
    exact ⟨fun _ _ => rfl, rfl, fun h1 _ => absurd (by simp [cells]) h1, fun _ _ => rfl, fun _ _ => rfl, fun _ _ => rfl, .of_eq _ rfl,
      rfl⟩

/-- Writing a word operand keeps the canonical form. -/
theorem WordOperand.write_wf {o : WordOperand} {w : Word} {p : Psw} {s t : State} (h : o.write w p s = .ok t)
    (hs : s.mem.wf = true) : t.mem.wf = true := by
  cases o with
  | imm _ => cases h; exact hs
  | pair k => cases h; exact writePair_wf p k w s hs
  | saddrp off => obtain ⟨a, _, hw⟩ := bind_eq_ok.1 h; exact writeWord_wf hw hs
  | sfrp off => obtain ⟨a, _, hw⟩ := bind_eq_ok.1 h; exact writeWord_wf hw hs
  | mem a => exact writeWord_wf h hs
  | sp => cases h; exact hs

/-- A pointer step changes the pair only. -/
theorem stepPair_only (p : Psw) (k : PairNo) (up : Bool) (s : State) : OnlyCells (pairCells p k) s (stepPair p k up s) :=
  writePair_only p k _ s

/-- A pointer step keeps the canonical form. -/
theorem stepPair_wf (p : Psw) (k : PairNo) (up : Bool) (s : State) (h : s.mem.wf = true) :
    (stepPair p k up s).mem.wf = true := writePair_wf p k _ s h

/-- The pointer update of a memory operand changes its pointer only. -/
theorem bump_only (p : Psw) (m : MemOperand) (s : State) : OnlyCells (pointerCells p m) s (bump p m s) := by
  cases m
  case deInc => exact stepPair_only p pairDe true s
  case hlInc => exact stepPair_only p pairHl true s
  case deDec => exact stepPair_only p pairDe false s
  case hlDec => exact stepPair_only p pairHl false s
  all_goals exact OnlyCells.refl s

/-- The pointer update of a memory operand keeps the canonical form. -/
theorem bump_wf (p : Psw) (m : MemOperand) (s : State) (h : s.mem.wf = true) : (bump p m s).mem.wf = true := by
  cases m
  case deInc => exact stepPair_wf p pairDe true s h
  case hlInc => exact stepPair_wf p pairHl true s h
  case deDec => exact stepPair_wf p pairDe false s h
  case hlDec => exact stepPair_wf p pairHl false s h
  all_goals exact h

end Sys2Proof.Machine
end

