-- ==== Sys2Proof/Laws/Meanings.lean ====
section
/-!
SUPPORT. Laws/Meanings.lean: for each operation that meanings share, what it can do.
-/

namespace Sys2Proof.Machine

theorem move_ok {n : Nat} {dst src : ByteOperand} {s t : State} :
    move n dst src s = .ok t ↔
      ∃ v u, src.read 0 s.psw s = .ok v ∧ dst.write v s.psw s = .ok u ∧ t = u.advance n := by
  simp only [move, bind_eq_ok, Except.ok.injEq, @eq_comm _ _ t, ← exists_and_left]

theorem moveWord_ok {n : Nat} {dst src : WordOperand} {s t : State} :
    moveWord n dst src s = .ok t ↔
      ∃ w u, src.read 0 s.psw s = .ok w ∧ dst.write w s.psw s = .ok u ∧ t = u.advance n := by
  simp only [moveWord, bind_eq_ok, Except.ok.injEq, @eq_comm _ _ t, ← exists_and_left]

theorem exchange_ok {n : Nat} {dst src : ByteOperand} {s t : State} :
    exchange n dst src s = .ok t ↔
      ∃ a b u v, src.read 0 s.psw s = .ok a ∧ dst.read 1 s.psw s = .ok b ∧ src.write b s.psw s = .ok u ∧
        dst.write a s.psw u = .ok v ∧ t = v.advance n := by
  simp only [exchange, bind_eq_ok, Except.ok.injEq, @eq_comm _ _ t, ← exists_and_left]

theorem exchangeWord_ok {n : Nat} {dst src : WordOperand} {s t : State} :
    exchangeWord n dst src s = .ok t ↔
      ∃ a b u v, src.read 0 s.psw s = .ok a ∧ dst.read 1 s.psw s = .ok b ∧ src.write b s.psw s = .ok u ∧
        dst.write a s.psw u = .ok v ∧ t = v.advance n := by
  simp only [exchangeWord, bind_eq_ok, Except.ok.injEq, @eq_comm _ _ t, ← exists_and_left]

theorem loadMem_ok {n : Nat} {m : MemOperand} {s t : State} :
    loadMem n m s = .ok t ↔
      ∃ v, readByte 0 (effectiveAddress m s) s = .ok v ∧
        t = (bump s.psw m (writeReg s.psw s.psw.regA v s)).advance n := by
  simp only [loadMem, bind_eq_ok, Except.ok.injEq, @eq_comm _ _ t]

theorem storeMem_ok {n : Nat} {m : MemOperand} {s t : State} :
    storeMem n m s = .ok t ↔
      ∃ u, writeByte (effectiveAddress m s) (readReg s.psw s.psw.regA s) s = .ok u ∧ t = (bump s.psw m u).advance n := by
  simp only [storeMem, bind_eq_ok, Except.ok.injEq, @eq_comm _ _ t]

theorem exchangeMem_ok {n : Nat} {m : MemOperand} {s t : State} :
    exchangeMem n m s = .ok t ↔
      ∃ v u, readByte 0 (effectiveAddress m s) s = .ok v ∧
        writeByte (effectiveAddress m s) (readReg s.psw s.psw.regA s) s = .ok u ∧
        t = (bump s.psw m (writeReg s.psw s.psw.regA v u)).advance n := by
  simp only [exchangeMem, bind_eq_ok, Except.ok.injEq, @eq_comm _ _ t, ← exists_and_left]

/-- An operation that stores. -/
theorem alu8_ok {op : AluOp} {dst src : ByteOperand} {s t : State} (h : op.stores = true) :
    alu8 op dst src s = .ok t ↔
      ∃ b a u, src.read 0 s.psw s = .ok b ∧ dst.read 1 s.psw s = .ok a ∧
        dst.write (op.result s.psw.cy a b) s.psw s = .ok u ∧ t = u.withPsw (op.flags s.psw.cy a b u.psw) := by
  simp only [alu8, h, if_true, bind_eq_ok, Except.ok.injEq, @eq_comm _ _ t, ← exists_and_left]

/-- CMP, which does not store. -/
theorem alu8_cmp_ok {dst src : ByteOperand} {s t : State} :
    alu8 .cmp dst src s = .ok t ↔
      ∃ b a, src.read 0 s.psw s = .ok b ∧ dst.read 1 s.psw s = .ok a ∧
        t = s.withPsw (AluOp.flags .cmp s.psw.cy a b s.psw) := by
  simp [alu8, AluOp.stores, bind_eq_ok, Except.ok.injEq, @eq_comm _ _ t]

theorem alu8Step_ok {op : AluOp} {n : Nat} {dst src : ByteOperand} {s t : State} :
    alu8Step op n dst src s = .ok t ↔ ∃ u, alu8 op dst src s = .ok u ∧ t = u.advance n := by
  simp only [alu8Step, bind_eq_ok, Except.ok.injEq, @eq_comm _ _ t]

theorem alu8Mem_ok {op : AluOp} {toMem : Bool} {m : MemOperand} {s t : State} :
    alu8Mem op toMem m s = .ok t ↔
      ∃ u, (if toMem then alu8 op (.mem (effectiveAddress m s)) (.reg s.psw.regA) s
          else alu8 op (.reg s.psw.regA) (.mem (effectiveAddress m s)) s) = .ok u ∧
        t = (bump s.psw m u).advance m.length := by
  cases toMem <;> simp [alu8Mem, bind_eq_ok, Except.ok.injEq, @eq_comm _ _ t]

/-- A word operation that stores. -/
theorem alu16Step_ok {op : WordOp} {n : Nat} {dst src : WordOperand} {s t : State} (h : op.stores = true) :
    alu16Step op n dst src s = .ok t ↔
      ∃ b a u, src.read 0 s.psw s = .ok b ∧ dst.read 1 s.psw s = .ok a ∧
        dst.write (alu16 op s.draws a b).res s.psw s = .ok u ∧
        t = (u.withPsw (u.psw.arith (alu16 op s.draws a b) op.subtracts)).advance n := by
  simp only [alu16Step, h, if_true, bind_eq_ok, Except.ok.injEq, @eq_comm _ _ t, ← exists_and_left]

/-- CMPW, which does not store. -/
theorem alu16Step_cmpw_ok {n : Nat} {dst src : WordOperand} {s t : State} :
    alu16Step .cmpw n dst src s = .ok t ↔
      ∃ b a, src.read 0 s.psw s = .ok b ∧ dst.read 1 s.psw s = .ok a ∧
        t = (s.withPsw (s.psw.arith (alu16 .cmpw s.draws a b) true)).advance n := by
  simp [alu16Step, WordOp.stores, WordOp.subtracts, bind_eq_ok, Except.ok.injEq, @eq_comm _ _ t]

theorem stepByte_ok {n : Nat} {up : Bool} {o : ByteOperand} {s t : State} :
    stepByte n up o s = .ok t ↔
      ∃ v u, o.read 0 s.psw s = .ok v ∧ o.write (if up then v + 1#8 else v - 1#8) s.psw s = .ok u ∧
        t = (u.withPsw (if up then u.psw.inc8 v else u.psw.dec8 v)).advance n := by
  simp only [stepByte, bind_eq_ok, Except.ok.injEq, @eq_comm _ _ t, ← exists_and_left]

theorem stepWord_ok {n : Nat} {up : Bool} {o : WordOperand} {s t : State} :
    stepWord n up o s = .ok t ↔
      ∃ w u, o.read 0 s.psw s = .ok w ∧ o.write (if up then w + 1#16 else w - 1#16) s.psw s = .ok u ∧
        t = u.advance n := by
  simp only [stepWord, bind_eq_ok, Except.ok.injEq, @eq_comm _ _ t, ← exists_and_left]

theorem digitRotate_ok {newByte newAcc : Byte → Byte → Byte} {k : PairNo} {s t : State} :
    digitRotate newByte newAcc k s = .ok t ↔
      ∃ m u, readByte 0 (readPair s.psw k s) s = .ok m ∧
        writeByte (readPair s.psw k s) (newByte (readReg s.psw s.psw.regA s) m) s = .ok u ∧
        t = (writeReg s.psw s.psw.regA (newAcc (readReg s.psw s.psw.regA s) m) u).advance 2 := by
  simp only [digitRotate, bind_eq_ok, Except.ok.injEq, @eq_comm _ _ t, ← exists_and_left]

theorem toCarry_ok {f : Bool → Bool → Bool} {n : Nat} {o : ByteOperand} {bit : BitVec 3} {s t : State} :
    toCarry f n o bit s = .ok t ↔
      ∃ v, o.read 0 s.psw s = .ok v ∧ t = (s.withPsw (s.psw.withCy (f s.psw.cy (bitOf v bit)))).advance n := by
  simp only [toCarry, bind_eq_ok, Except.ok.injEq, @eq_comm _ _ t]

theorem toBit_ok {f : Bool → Bool → Bool} {n : Nat} {o : ByteOperand} {bit : BitVec 3} {s t : State} :
    toBit f n o bit s = .ok t ↔
      ∃ v u, o.read 0 s.psw s = .ok v ∧ o.write (putBit v bit (f s.psw.cy (bitOf v bit))) s.psw s = .ok u ∧
        t = u.advance n := by
  simp only [toBit, bind_eq_ok, Except.ok.injEq, @eq_comm _ _ t, ← exists_and_left]

theorem call_ok {n : Nat} {target : Addr} {s t : State} :
    call n target s = .ok t ↔ ∃ u, push (s.pc + BitVec.ofNat 16 n) s = .ok u ∧ t = u.withPc target := by
  simp only [call, bind_eq_ok, Except.ok.injEq, @eq_comm _ _ t]

theorem callTable_ok {t5 : BitVec 5} {s t : State} :
    callTable t5 s = .ok t ↔
      ∃ u target, push (s.pc + 1#16) s = .ok u ∧
        readWord 0 ((if tpf u then 0x8040#16 else 0x0040#16) + 2#16 * t5.zeroExtend 16) u = .ok target ∧
        t = u.withPc target := by
  simp only [callTable, bind_eq_ok, Except.ok.injEq, @eq_comm _ _ t, ← exists_and_left]

theorem pushPairs_cons_ok {p : Psw} {k : PairNo} {l : List PairNo} {s t : State} :
    pushPairs p (k :: l) s = .ok t ↔ ∃ u, push (readPair p k s) s = .ok u ∧ pushPairs p l u = .ok t := by
  simp only [pushPairs, bind_eq_ok]

theorem popPairs_cons_ok {p : Psw} {k : PairNo} {l : List PairNo} {s t : State} :
    popPairs p (k :: l) s = .ok t ↔
      ∃ w, readWord 0 s.sp s = .ok w ∧ popPairs p l (writePair p k w (s.withSp (s.sp + 2#16))) = .ok t := by
  simp only [popPairs, bind_eq_ok]

theorem pushUserItems_cons_ok {p : Psw} {k : PairNo} {l : List PairNo} {s t : State} :
    pushUserItems p (k :: l) s = .ok t ↔
      ∃ u, pushAt (readPair p pairUp s) (if k = 5#3 then s.psw.word else readPair p k s) s = .ok u ∧
        pushUserItems p l (writePair p pairUp (readPair p pairUp s - 2#16) u) = .ok t := by
  simp only [pushUserItems, bind_eq_ok]

theorem popUserItems_cons_ok {p : Psw} {k : PairNo} {l : List PairNo} {s t : State} :
    popUserItems p (k :: l) s = .ok t ↔
      ∃ w, readWord 0 (readPair p pairUp s) s = .ok w ∧
        popUserItems p l (writePair p pairUp (readPair p pairUp s + 2#16)
          (if k = 5#3 then s.withPsw (s.psw.restore (Word.lo w) (Word.hi w)) else writePair p k w s)) = .ok t := by
  simp only [popUserItems, bind_eq_ok]

theorem testBit_ok {sense : Bool} {n : Nat} {o : ByteOperand} {bit : BitVec 3} {j : Byte} {s t : State} :
    testBit sense n o bit j s = .ok t ↔
      ∃ v, o.read 0 s.psw s = .ok v ∧ t = s.branch n j (bitOf v bit == sense) := by
  simp only [testBit, bind_eq_ok, Except.ok.injEq, @eq_comm _ _ t]

theorem testAndWrite_ok {sense : Bool} {n : Nat} {o : ByteOperand} {bit : BitVec 3} {j : Byte} {s t : State} :
    testAndWrite sense n o bit j s = .ok t ↔
      ∃ v, o.read 0 s.psw s = .ok v ∧
        ((bitOf v bit = sense ∧ ∃ u, o.write (putBit v bit (!sense)) s.psw s = .ok u ∧ t = u.branch n j true) ∨
          (bitOf v bit ≠ sense ∧ t = s.branch n j false)) := by
  simp only [testAndWrite, bind_eq_ok]
  refine exists_congr fun v => and_congr_right fun _ => ?_
  by_cases h : bitOf v bit = sense
  · simp [h, bind_eq_ok, @eq_comm _ _ t]
  · simp [h, @eq_comm _ _ t]

theorem countDown_ok {n : Nat} {o : ByteOperand} {j : Byte} {s t : State} :
    countDown n o j s = .ok t ↔
      ∃ v u, o.read 0 s.psw s = .ok v ∧ o.write (v - 1#8) s.psw s = .ok u ∧
        t = u.branch n j (v - 1#8 != 0#8) := by
  simp only [countDown, bind_eq_ok, Except.ok.injEq, @eq_comm _ _ t, ← exists_and_left]

theorem moveMany_ok {up : Bool} {s t : State} :
    moveMany up s = .ok t ↔
      ∃ u, writeByte (readPair s.psw pairDe s) (readReg s.psw s.psw.regA s) s = .ok u ∧
        t = stringTail s.psw false up false u := by
  simp only [moveMany, bind_eq_ok, Except.ok.injEq, @eq_comm _ _ t]

theorem moveBlock_ok {up : Bool} {s t : State} :
    moveBlock up s = .ok t ↔
      ∃ v u, readByte 0 (readPair s.psw pairHl s) s = .ok v ∧ writeByte (readPair s.psw pairDe s) v s = .ok u ∧
        t = stringTail s.psw true up false u := by
  simp only [moveBlock, bind_eq_ok, Except.ok.injEq, @eq_comm _ _ t, ← exists_and_left]

theorem exchangeMany_ok {up : Bool} {s t : State} :
    exchangeMany up s = .ok t ↔
      ∃ x u, readByte 0 (readPair s.psw pairDe s) s = .ok x ∧
        writeByte (readPair s.psw pairDe s) (readReg s.psw s.psw.regA s) s = .ok u ∧
        t = stringTail s.psw false up false (writeReg s.psw s.psw.regA x u) := by
  simp only [exchangeMany, bind_eq_ok, Except.ok.injEq, @eq_comm _ _ t, ← exists_and_left]

theorem exchangeBlock_ok {up : Bool} {s t : State} :
    exchangeBlock up s = .ok t ↔
      ∃ x y u v, readByte 0 (readPair s.psw pairDe s) s = .ok x ∧ readByte 1 (readPair s.psw pairHl s) s = .ok y ∧
        writeByte (readPair s.psw pairDe s) y s = .ok u ∧ writeByte (readPair s.psw pairHl u) x u = .ok v ∧
        t = stringTail s.psw true up false v := by
  simp only [exchangeBlock, bind_eq_ok, Except.ok.injEq, @eq_comm _ _ t, ← exists_and_left]

theorem compareMany_ok {ends : Psw → Bool} {up : Bool} {s t : State} :
    compareMany ends up s = .ok t ↔
      ∃ a, readByte 0 (readPair s.psw pairDe s) s = .ok a ∧
        t = stringTail s.psw false up (ends (AluOp.flags .cmp s.psw.cy a (readReg s.psw s.psw.regA s) s.psw))
          (s.withPsw (AluOp.flags .cmp s.psw.cy a (readReg s.psw s.psw.regA s) s.psw)) := by
  simp only [compareMany, bind_eq_ok, Except.ok.injEq, @eq_comm _ _ t]

theorem compareBlock_ok {ends : Psw → Bool} {up : Bool} {s t : State} :
    compareBlock ends up s = .ok t ↔
      ∃ a b, readByte 0 (readPair s.psw pairDe s) s = .ok a ∧ readByte 1 (readPair s.psw pairHl s) s = .ok b ∧
        t = stringTail s.psw true up (ends (AluOp.flags .cmp s.psw.cy a b s.psw))
          (s.withPsw (AluOp.flags .cmp s.psw.cy a b s.psw)) := by
  simp only [compareBlock, bind_eq_ok, Except.ok.injEq, @eq_comm _ _ t, ← exists_and_left]

/-! ## What a branch decides on -/

/-- Where the operand reads, BT, BF, BTCLR and BFSET branch on its bit. -/
theorem bitIs_of_ok {sense : Bool} {o : ByteOperand} {bit : BitVec 3} {s : State} {v : Byte} (h : o.read 0 s.psw s = .ok v) :
    bitIs sense o bit s = (bitOf v bit == sense) := by simp only [bitIs, h]

/-- Where the operand reads, DBNZ branches on the count after it. -/
theorem countsOn_of_ok {o : ByteOperand} {s : State} {v : Byte} (h : o.read 0 s.psw s = .ok v) :
    countsOn o s = (v - 1#8 != 0#8) := by simp only [countsOn, h]

/-! ## What is served before an instruction -/

theorem due_running {s : State} (h : s.run = .running) : due s = boundary s := by rw [due, h]

theorem due_stopped {s : State} (h : s.run = .stopped) : due s = none := by rw [due, h]

/-- In HALT a macroservice transfer is served and no other event. -/
theorem due_halted {s : State} (h : s.run = .halted) {e : Event} :
    due s = some e ↔ boundary s = some e ∧ e.transfers s = true := by
  rw [due, h]
  simp only [Option.filter_eq_some_iff]

/-- The request served in RUN leaves the run state; in HALT it ends it. -/
theorem rouse_running (t : State) : rouse .running t = t := rfl

theorem rouse_halted (t : State) : rouse .halted t = wake t := rfl

/-! ## What the prefetch queue may hold -/

/-- Of an address the queue may hold what a list of the state says. -/
theorem mem_queued {s : State} {a : Addr} {v : Byte} : v ∈ queued s a ↔ (a.toNat, v) ∈ s.prefetch := by
  simp [queued]

/-- After a step that refetches nothing the queue may hold what it could in the window, or what the step has overwritten there. -/
theorem mem_stalePrefetch {n : Nat} {s t : State} {c : Host.Cell} :
    c ∈ stalePrefetch false n s t ↔ c ∈ t.prefetch ∧ ∃ a ∈ prefetchWindow s.pc t.pc n, a.toNat = c.1 := by
  simp [stalePrefetch]

/-- A step that refetches empties the queue. -/
theorem stalePrefetch_refetch (n : Nat) (s t : State) : stalePrefetch true n s t = [] := rfl

/-! ## Macroservice -/

/-- What moving the datum can do: a byte or a word goes from the source to the target. -/
theorem moveDatum_ok {ch : MacroChannel} {s t : State} :
    moveDatum ch s = .ok t ↔
      let port : Addr := 0xFF#8 ++ s.byte (recordAt ch.sfr)
      let source := if ch.toMemory then port else recordAddress ch s
      let target := if ch.toMemory then recordAddress ch s else port
      if ch.word then ∃ w, readWord 1 source s = .ok w ∧ writeWord target w s = .ok t
      else ∃ v, readByte 1 source s = .ok v ∧ writeByte target v s = .ok t := by
  unfold moveDatum
  by_cases hw : ch.word = true <;> simp only [hw, if_true, if_false, Bool.false_eq_true, bind_eq_ok]

/-- What a transfer can do: the datum moves, then the address of the record where the channel says so, then its count. -/
theorem transfer_ok {ch : MacroChannel} {s t : State} {count : Byte} :
    transfer ch s = .ok (t, count) ↔
      ∃ u v, moveDatum ch s = .ok u ∧
        v = (if ch.increment then setRecordAddress ch (recordAddress ch u + if ch.word then 2#16 else 1#16) u else u) ∧
        count = v.byte (recordAt ch.count) - 1#8 ∧ t = v.setByte (recordAt ch.count) count := by
  simp only [transfer, bind_eq_ok, Except.ok.injEq, Prod.mk.injEq]
  exact ⟨fun ⟨u, hu, e, e'⟩ => ⟨u, _, hu, rfl, e'.symm, by rw [← e, ← e']⟩, fun ⟨u, v, hu, hv, e, e'⟩ =>
    ⟨u, hu, by rw [e', e, hv], by rw [e, hv]⟩⟩

end Sys2Proof.Machine
end

