-- ==== Sys2Proof/Laws/PerInstr.lean ====
section
/-!
SUPPORT. Laws/PerInstr.lean: what holds of every instruction as syntax, one lemma per constructor.
-/

namespace Sys2Proof.Laws.EncodedLength

/-- An instruction has one to five bytes (R120). -/
def Statement (i : Instr) : Prop := 1 ≤ i.length ∧ i.length ≤ 5

/-- The statement from the two comparisons, computed. -/
theorem of_ble {i : Instr} (h : (Nat.ble 1 i.length && Nat.ble i.length 5) = true) : Statement i := by
  rw [Bool.and_eq_true] at h
  exact ⟨Nat.le_of_ble_eq_true h.1, Nat.le_of_ble_eq_true h.2⟩

theorem movR1Byte (r1 : Reg8) (byte : Byte) : Statement (.movR1Byte r1 byte) := of_ble rfl
theorem movSaddrByte (off : Byte) (byte : Byte) : Statement (.movSaddrByte off byte) := of_ble rfl
theorem movSfrByte (off : Byte) (byte : Byte) : Statement (.movSfrByte off byte) := of_ble rfl
theorem movRR1 (r : RegNo) (r1 : Reg8) : Statement (.movRR1 r r1) := of_ble rfl
theorem movAR1 (r1 : Reg8) : Statement (.movAR1 r1) := of_ble rfl
theorem movASaddr (off : Byte) : Statement (.movASaddr off) := of_ble rfl
theorem movSaddrA (off : Byte) : Statement (.movSaddrA off) := of_ble rfl
theorem movASfr (off : Byte) : Statement (.movASfr off) := of_ble rfl
theorem movSfrA (off : Byte) : Statement (.movSfrA off) := of_ble rfl
theorem movAMem1 (m : Ptr) : Statement (.movAMem1 m) := of_ble rfl
theorem movAMem (m : MemOperand) : Statement (.movAMem m) := by cases m <;> exact of_ble rfl
theorem movMemA1 (m : Ptr) : Statement (.movMemA1 m) := of_ble rfl
theorem movMemA (m : MemOperand) : Statement (.movMemA m) := by cases m <;> exact of_ble rfl
theorem movPswlByte (byte : Byte) : Statement (.movPswlByte byte) := of_ble rfl
theorem movPswhByte (byte : Byte) : Statement (.movPswhByte byte) := of_ble rfl
theorem movPswlA : Statement .movPswlA := of_ble rfl
theorem movPswhA : Statement .movPswhA := of_ble rfl
theorem movAPswl : Statement .movAPswl := of_ble rfl
theorem movAPswh : Statement .movAPswh := of_ble rfl
theorem movSaddrSaddr (dst : Byte) (src : Byte) : Statement (.movSaddrSaddr dst src) := of_ble rfl
theorem movAIndSaddrp (off : Byte) : Statement (.movAIndSaddrp off) := of_ble rfl
theorem movIndSaddrpA (off : Byte) : Statement (.movIndSaddrpA off) := of_ble rfl
theorem movAAddr16 (w : Addr) : Statement (.movAAddr16 w) := of_ble rfl
theorem movAddr16A (w : Addr) : Statement (.movAddr16A w) := of_ble rfl
theorem xchAR1 (r1 : Reg8) : Statement (.xchAR1 r1) := of_ble rfl
theorem xchRR1 (r : RegNo) (r1 : Reg8) : Statement (.xchRR1 r r1) := of_ble rfl
theorem xchAMem (m : MemOperand) : Statement (.xchAMem m) := by cases m <;> exact of_ble rfl
theorem xchASaddr (off : Byte) : Statement (.xchASaddr off) := of_ble rfl
theorem xchASfr (off : Byte) : Statement (.xchASfr off) := of_ble rfl
theorem xchAIndSaddrp (off : Byte) : Statement (.xchAIndSaddrp off) := of_ble rfl
theorem xchSaddrSaddr (dst : Byte) (src : Byte) : Statement (.xchSaddrSaddr dst src) := of_ble rfl
theorem movwRp1Word (rp1 : PairNo) (w : Word) : Statement (.movwRp1Word rp1 w) := of_ble rfl
theorem movwSaddrpWord (off : Byte) (w : Word) : Statement (.movwSaddrpWord off w) := of_ble rfl
theorem movwSfrpWord (off : Byte) (w : Word) : Statement (.movwSfrpWord off w) := of_ble rfl
theorem movwRpRp1 (rp : PairNo) (rp1 : PairNo) : Statement (.movwRpRp1 rp rp1) := of_ble rfl
theorem movwAxSaddrp (off : Byte) : Statement (.movwAxSaddrp off) := of_ble rfl
theorem movwSaddrpAx (off : Byte) : Statement (.movwSaddrpAx off) := of_ble rfl
theorem movwSaddrpSaddrp (dst : Byte) (src : Byte) : Statement (.movwSaddrpSaddrp dst src) := of_ble rfl
theorem movwAxSfrp (off : Byte) : Statement (.movwAxSfrp off) := of_ble rfl
theorem movwSfrpAx (off : Byte) : Statement (.movwSfrpAx off) := of_ble rfl
theorem movwRp1Addr16 (rp1 : PairNo) (w : Addr) : Statement (.movwRp1Addr16 rp1 w) := of_ble rfl
theorem movwAddr16Rp1 (w : Addr) (rp1 : PairNo) : Statement (.movwAddr16Rp1 w rp1) := of_ble rfl
theorem xchwAxSaddrp (off : Byte) : Statement (.xchwAxSaddrp off) := of_ble rfl
theorem xchwAxSfrp (off : Byte) : Statement (.xchwAxSfrp off) := of_ble rfl
theorem xchwSaddrpSaddrp (dst : Byte) (src : Byte) : Statement (.xchwSaddrpSaddrp dst src) := of_ble rfl
theorem xchwRpRp1 (rp : PairNo) (rp1 : PairNo) : Statement (.xchwRpRp1 rp rp1) := of_ble rfl
theorem addAByte (byte : Byte) : Statement (.addAByte byte) := of_ble rfl
theorem addSaddrByte (off : Byte) (byte : Byte) : Statement (.addSaddrByte off byte) := of_ble rfl
theorem addSfrByte (off : Byte) (byte : Byte) : Statement (.addSfrByte off byte) := of_ble rfl
theorem addRR1 (r : RegNo) (r1 : Reg8) : Statement (.addRR1 r r1) := of_ble rfl
theorem addASaddr (off : Byte) : Statement (.addASaddr off) := of_ble rfl
theorem addASfr (off : Byte) : Statement (.addASfr off) := of_ble rfl
theorem addSaddrSaddr (dst : Byte) (src : Byte) : Statement (.addSaddrSaddr dst src) := of_ble rfl
theorem addAMem (m : MemOperand) : Statement (.addAMem m) := by cases m <;> exact of_ble rfl
theorem addMemA (m : MemOperand) : Statement (.addMemA m) := by cases m <;> exact of_ble rfl
theorem addcAByte (byte : Byte) : Statement (.addcAByte byte) := of_ble rfl
theorem addcSaddrByte (off : Byte) (byte : Byte) : Statement (.addcSaddrByte off byte) := of_ble rfl
theorem addcSfrByte (off : Byte) (byte : Byte) : Statement (.addcSfrByte off byte) := of_ble rfl
theorem addcRR1 (r : RegNo) (r1 : Reg8) : Statement (.addcRR1 r r1) := of_ble rfl
theorem addcASaddr (off : Byte) : Statement (.addcASaddr off) := of_ble rfl
theorem addcASfr (off : Byte) : Statement (.addcASfr off) := of_ble rfl
theorem addcSaddrSaddr (dst : Byte) (src : Byte) : Statement (.addcSaddrSaddr dst src) := of_ble rfl
theorem addcAMem (m : MemOperand) : Statement (.addcAMem m) := by cases m <;> exact of_ble rfl
theorem addcMemA (m : MemOperand) : Statement (.addcMemA m) := by cases m <;> exact of_ble rfl
theorem subAByte (byte : Byte) : Statement (.subAByte byte) := of_ble rfl
theorem subSaddrByte (off : Byte) (byte : Byte) : Statement (.subSaddrByte off byte) := of_ble rfl
theorem subSfrByte (off : Byte) (byte : Byte) : Statement (.subSfrByte off byte) := of_ble rfl
theorem subRR1 (r : RegNo) (r1 : Reg8) : Statement (.subRR1 r r1) := of_ble rfl
theorem subASaddr (off : Byte) : Statement (.subASaddr off) := of_ble rfl
theorem subASfr (off : Byte) : Statement (.subASfr off) := of_ble rfl
theorem subSaddrSaddr (dst : Byte) (src : Byte) : Statement (.subSaddrSaddr dst src) := of_ble rfl
theorem subAMem (m : MemOperand) : Statement (.subAMem m) := by cases m <;> exact of_ble rfl
theorem subMemA (m : MemOperand) : Statement (.subMemA m) := by cases m <;> exact of_ble rfl
theorem subcAByte (byte : Byte) : Statement (.subcAByte byte) := of_ble rfl
theorem subcSaddrByte (off : Byte) (byte : Byte) : Statement (.subcSaddrByte off byte) := of_ble rfl
theorem subcSfrByte (off : Byte) (byte : Byte) : Statement (.subcSfrByte off byte) := of_ble rfl
theorem subcRR1 (r : RegNo) (r1 : Reg8) : Statement (.subcRR1 r r1) := of_ble rfl
theorem subcASaddr (off : Byte) : Statement (.subcASaddr off) := of_ble rfl
theorem subcASfr (off : Byte) : Statement (.subcASfr off) := of_ble rfl
theorem subcSaddrSaddr (dst : Byte) (src : Byte) : Statement (.subcSaddrSaddr dst src) := of_ble rfl
theorem subcAMem (m : MemOperand) : Statement (.subcAMem m) := by cases m <;> exact of_ble rfl
theorem subcMemA (m : MemOperand) : Statement (.subcMemA m) := by cases m <;> exact of_ble rfl
theorem andAByte (byte : Byte) : Statement (.andAByte byte) := of_ble rfl
theorem andSaddrByte (off : Byte) (byte : Byte) : Statement (.andSaddrByte off byte) := of_ble rfl
theorem andSfrByte (off : Byte) (byte : Byte) : Statement (.andSfrByte off byte) := of_ble rfl
theorem andRR1 (r : RegNo) (r1 : Reg8) : Statement (.andRR1 r r1) := of_ble rfl
theorem andASaddr (off : Byte) : Statement (.andASaddr off) := of_ble rfl
theorem andASfr (off : Byte) : Statement (.andASfr off) := of_ble rfl
theorem andSaddrSaddr (dst : Byte) (src : Byte) : Statement (.andSaddrSaddr dst src) := of_ble rfl
theorem andAMem (m : MemOperand) : Statement (.andAMem m) := by cases m <;> exact of_ble rfl
theorem andMemA (m : MemOperand) : Statement (.andMemA m) := by cases m <;> exact of_ble rfl
theorem xorAByte (byte : Byte) : Statement (.xorAByte byte) := of_ble rfl
theorem xorSaddrByte (off : Byte) (byte : Byte) : Statement (.xorSaddrByte off byte) := of_ble rfl
theorem xorSfrByte (off : Byte) (byte : Byte) : Statement (.xorSfrByte off byte) := of_ble rfl
theorem xorRR1 (r : RegNo) (r1 : Reg8) : Statement (.xorRR1 r r1) := of_ble rfl
theorem xorASaddr (off : Byte) : Statement (.xorASaddr off) := of_ble rfl
theorem xorASfr (off : Byte) : Statement (.xorASfr off) := of_ble rfl
theorem xorSaddrSaddr (dst : Byte) (src : Byte) : Statement (.xorSaddrSaddr dst src) := of_ble rfl
theorem xorAMem (m : MemOperand) : Statement (.xorAMem m) := by cases m <;> exact of_ble rfl
theorem xorMemA (m : MemOperand) : Statement (.xorMemA m) := by cases m <;> exact of_ble rfl
theorem orAByte (byte : Byte) : Statement (.orAByte byte) := of_ble rfl
theorem orSaddrByte (off : Byte) (byte : Byte) : Statement (.orSaddrByte off byte) := of_ble rfl
theorem orSfrByte (off : Byte) (byte : Byte) : Statement (.orSfrByte off byte) := of_ble rfl
theorem orRR1 (r : RegNo) (r1 : Reg8) : Statement (.orRR1 r r1) := of_ble rfl
theorem orASaddr (off : Byte) : Statement (.orASaddr off) := of_ble rfl
theorem orASfr (off : Byte) : Statement (.orASfr off) := of_ble rfl
theorem orSaddrSaddr (dst : Byte) (src : Byte) : Statement (.orSaddrSaddr dst src) := of_ble rfl
theorem orAMem (m : MemOperand) : Statement (.orAMem m) := by cases m <;> exact of_ble rfl
theorem orMemA (m : MemOperand) : Statement (.orMemA m) := by cases m <;> exact of_ble rfl
theorem cmpAByte (byte : Byte) : Statement (.cmpAByte byte) := of_ble rfl
theorem cmpSaddrByte (off : Byte) (byte : Byte) : Statement (.cmpSaddrByte off byte) := of_ble rfl
theorem cmpSfrByte (off : Byte) (byte : Byte) : Statement (.cmpSfrByte off byte) := of_ble rfl
theorem cmpRR1 (r : RegNo) (r1 : Reg8) : Statement (.cmpRR1 r r1) := of_ble rfl
theorem cmpASaddr (off : Byte) : Statement (.cmpASaddr off) := of_ble rfl
theorem cmpASfr (off : Byte) : Statement (.cmpASfr off) := of_ble rfl
theorem cmpSaddrSaddr (dst : Byte) (src : Byte) : Statement (.cmpSaddrSaddr dst src) := of_ble rfl
theorem cmpAMem (m : MemOperand) : Statement (.cmpAMem m) := by cases m <;> exact of_ble rfl
theorem cmpMemA (m : MemOperand) : Statement (.cmpMemA m) := by cases m <;> exact of_ble rfl
theorem addwAxWord (w : Word) : Statement (.addwAxWord w) := of_ble rfl
theorem addwSaddrpWord (off : Byte) (w : Word) : Statement (.addwSaddrpWord off w) := of_ble rfl
theorem addwSfrpWord (off : Byte) (w : Word) : Statement (.addwSfrpWord off w) := of_ble rfl
theorem addwRpRp1 (rp : PairNo) (rp1 : PairNo) : Statement (.addwRpRp1 rp rp1) := of_ble rfl
theorem addwAxSaddrp (off : Byte) : Statement (.addwAxSaddrp off) := of_ble rfl
theorem addwAxSfrp (off : Byte) : Statement (.addwAxSfrp off) := of_ble rfl
theorem addwSaddrpSaddrp (dst : Byte) (src : Byte) : Statement (.addwSaddrpSaddrp dst src) := of_ble rfl
theorem subwAxWord (w : Word) : Statement (.subwAxWord w) := of_ble rfl
theorem subwSaddrpWord (off : Byte) (w : Word) : Statement (.subwSaddrpWord off w) := of_ble rfl
theorem subwSfrpWord (off : Byte) (w : Word) : Statement (.subwSfrpWord off w) := of_ble rfl
theorem subwRpRp1 (rp : PairNo) (rp1 : PairNo) : Statement (.subwRpRp1 rp rp1) := of_ble rfl
theorem subwAxSaddrp (off : Byte) : Statement (.subwAxSaddrp off) := of_ble rfl
theorem subwAxSfrp (off : Byte) : Statement (.subwAxSfrp off) := of_ble rfl
theorem subwSaddrpSaddrp (dst : Byte) (src : Byte) : Statement (.subwSaddrpSaddrp dst src) := of_ble rfl
theorem cmpwAxWord (w : Word) : Statement (.cmpwAxWord w) := of_ble rfl
theorem cmpwSaddrpWord (off : Byte) (w : Word) : Statement (.cmpwSaddrpWord off w) := of_ble rfl
theorem cmpwSfrpWord (off : Byte) (w : Word) : Statement (.cmpwSfrpWord off w) := of_ble rfl
theorem cmpwRpRp1 (rp : PairNo) (rp1 : PairNo) : Statement (.cmpwRpRp1 rp rp1) := of_ble rfl
theorem cmpwAxSaddrp (off : Byte) : Statement (.cmpwAxSaddrp off) := of_ble rfl
theorem cmpwAxSfrp (off : Byte) : Statement (.cmpwAxSfrp off) := of_ble rfl
theorem cmpwSaddrpSaddrp (dst : Byte) (src : Byte) : Statement (.cmpwSaddrpSaddrp dst src) := of_ble rfl
theorem muluR1 (r1 : Reg8) : Statement (.muluR1 r1) := of_ble rfl
theorem divuwR1 (r1 : Reg8) : Statement (.divuwR1 r1) := of_ble rfl
theorem muluwRp1 (rp1 : PairNo) : Statement (.muluwRp1 rp1) := of_ble rfl
theorem divuxRp1 (rp1 : PairNo) : Statement (.divuxRp1 rp1) := of_ble rfl
theorem incR1 (r1 : Reg8) : Statement (.incR1 r1) := of_ble rfl
theorem incSaddr (off : Byte) : Statement (.incSaddr off) := of_ble rfl
theorem decR1 (r1 : Reg8) : Statement (.decR1 r1) := of_ble rfl
theorem decSaddr (off : Byte) : Statement (.decSaddr off) := of_ble rfl
theorem incwRp2 (rp2 : PointerPair) : Statement (.incwRp2 rp2) := of_ble rfl
theorem incwSaddrp (off : Byte) : Statement (.incwSaddrp off) := of_ble rfl
theorem decwRp2 (rp2 : PointerPair) : Statement (.decwRp2 rp2) := of_ble rfl
theorem decwSaddrp (off : Byte) : Statement (.decwSaddrp off) := of_ble rfl
theorem rorR1N (r1 : Reg8) (n : BitVec 3) : Statement (.rorR1N r1 n) := of_ble rfl
theorem rolR1N (r1 : Reg8) (n : BitVec 3) : Statement (.rolR1N r1 n) := of_ble rfl
theorem rorcR1N (r1 : Reg8) (n : BitVec 3) : Statement (.rorcR1N r1 n) := of_ble rfl
theorem rolcR1N (r1 : Reg8) (n : BitVec 3) : Statement (.rolcR1N r1 n) := of_ble rfl
theorem shrR1N (r1 : Reg8) (n : BitVec 3) : Statement (.shrR1N r1 n) := of_ble rfl
theorem shlR1N (r1 : Reg8) (n : BitVec 3) : Statement (.shlR1N r1 n) := of_ble rfl
theorem shrwRp1N (rp1 : PairNo) (n : BitVec 3) : Statement (.shrwRp1N rp1 n) := of_ble rfl
theorem shlwRp1N (rp1 : PairNo) (n : BitVec 3) : Statement (.shlwRp1N rp1 n) := of_ble rfl
theorem ror4IndRp1 (rp1 : PairNo) : Statement (.ror4IndRp1 rp1) := of_ble rfl
theorem rol4IndRp1 (rp1 : PairNo) : Statement (.rol4IndRp1 rp1) := of_ble rfl
theorem adj4 : Statement .adj4 := of_ble rfl
theorem mov1CySaddrBit (off : Byte) (bit : BitVec 3) : Statement (.mov1CySaddrBit off bit) := of_ble rfl
theorem mov1CySfrBit (off : Byte) (bit : BitVec 3) : Statement (.mov1CySfrBit off bit) := of_ble rfl
theorem mov1CyABit (bit : BitVec 3) : Statement (.mov1CyABit bit) := of_ble rfl
theorem mov1CyXBit (bit : BitVec 3) : Statement (.mov1CyXBit bit) := of_ble rfl
theorem mov1CyPswhBit (bit : BitVec 3) : Statement (.mov1CyPswhBit bit) := of_ble rfl
theorem mov1CyPswlBit (bit : BitVec 3) : Statement (.mov1CyPswlBit bit) := of_ble rfl
theorem mov1SaddrBitCy (off : Byte) (bit : BitVec 3) : Statement (.mov1SaddrBitCy off bit) := of_ble rfl
theorem mov1SfrBitCy (off : Byte) (bit : BitVec 3) : Statement (.mov1SfrBitCy off bit) := of_ble rfl
theorem mov1ABitCy (bit : BitVec 3) : Statement (.mov1ABitCy bit) := of_ble rfl
theorem mov1XBitCy (bit : BitVec 3) : Statement (.mov1XBitCy bit) := of_ble rfl
theorem mov1PswhBitCy (bit : BitVec 3) : Statement (.mov1PswhBitCy bit) := of_ble rfl
theorem mov1PswlBitCy (bit : BitVec 3) : Statement (.mov1PswlBitCy bit) := of_ble rfl
theorem and1CySaddrBit (off : Byte) (bit : BitVec 3) : Statement (.and1CySaddrBit off bit) := of_ble rfl
theorem and1CyNotSaddrBit (off : Byte) (bit : BitVec 3) : Statement (.and1CyNotSaddrBit off bit) := of_ble rfl
theorem and1CySfrBit (off : Byte) (bit : BitVec 3) : Statement (.and1CySfrBit off bit) := of_ble rfl
theorem and1CyNotSfrBit (off : Byte) (bit : BitVec 3) : Statement (.and1CyNotSfrBit off bit) := of_ble rfl
theorem and1CyABit (bit : BitVec 3) : Statement (.and1CyABit bit) := of_ble rfl
theorem and1CyNotABit (bit : BitVec 3) : Statement (.and1CyNotABit bit) := of_ble rfl
theorem and1CyXBit (bit : BitVec 3) : Statement (.and1CyXBit bit) := of_ble rfl
theorem and1CyNotXBit (bit : BitVec 3) : Statement (.and1CyNotXBit bit) := of_ble rfl
theorem and1CyPswhBit (bit : BitVec 3) : Statement (.and1CyPswhBit bit) := of_ble rfl
theorem and1CyNotPswhBit (bit : BitVec 3) : Statement (.and1CyNotPswhBit bit) := of_ble rfl
theorem and1CyPswlBit (bit : BitVec 3) : Statement (.and1CyPswlBit bit) := of_ble rfl
theorem and1CyNotPswlBit (bit : BitVec 3) : Statement (.and1CyNotPswlBit bit) := of_ble rfl
theorem or1CySaddrBit (off : Byte) (bit : BitVec 3) : Statement (.or1CySaddrBit off bit) := of_ble rfl
theorem or1CyNotSaddrBit (off : Byte) (bit : BitVec 3) : Statement (.or1CyNotSaddrBit off bit) := of_ble rfl
theorem or1CySfrBit (off : Byte) (bit : BitVec 3) : Statement (.or1CySfrBit off bit) := of_ble rfl
theorem or1CyNotSfrBit (off : Byte) (bit : BitVec 3) : Statement (.or1CyNotSfrBit off bit) := of_ble rfl
theorem or1CyABit (bit : BitVec 3) : Statement (.or1CyABit bit) := of_ble rfl
theorem or1CyNotABit (bit : BitVec 3) : Statement (.or1CyNotABit bit) := of_ble rfl
theorem or1CyXBit (bit : BitVec 3) : Statement (.or1CyXBit bit) := of_ble rfl
theorem or1CyNotXBit (bit : BitVec 3) : Statement (.or1CyNotXBit bit) := of_ble rfl
theorem or1CyPswhBit (bit : BitVec 3) : Statement (.or1CyPswhBit bit) := of_ble rfl
theorem or1CyNotPswhBit (bit : BitVec 3) : Statement (.or1CyNotPswhBit bit) := of_ble rfl
theorem or1CyPswlBit (bit : BitVec 3) : Statement (.or1CyPswlBit bit) := of_ble rfl
theorem or1CyNotPswlBit (bit : BitVec 3) : Statement (.or1CyNotPswlBit bit) := of_ble rfl
theorem xor1CySaddrBit (off : Byte) (bit : BitVec 3) : Statement (.xor1CySaddrBit off bit) := of_ble rfl
theorem xor1CySfrBit (off : Byte) (bit : BitVec 3) : Statement (.xor1CySfrBit off bit) := of_ble rfl
theorem xor1CyABit (bit : BitVec 3) : Statement (.xor1CyABit bit) := of_ble rfl
theorem xor1CyXBit (bit : BitVec 3) : Statement (.xor1CyXBit bit) := of_ble rfl
theorem xor1CyPswhBit (bit : BitVec 3) : Statement (.xor1CyPswhBit bit) := of_ble rfl
theorem xor1CyPswlBit (bit : BitVec 3) : Statement (.xor1CyPswlBit bit) := of_ble rfl
theorem set1SaddrBit (off : Byte) (bit : BitVec 3) : Statement (.set1SaddrBit off bit) := of_ble rfl
theorem set1SfrBit (off : Byte) (bit : BitVec 3) : Statement (.set1SfrBit off bit) := of_ble rfl
theorem set1ABit (bit : BitVec 3) : Statement (.set1ABit bit) := of_ble rfl
theorem set1XBit (bit : BitVec 3) : Statement (.set1XBit bit) := of_ble rfl
theorem set1PswhBit (bit : BitVec 3) : Statement (.set1PswhBit bit) := of_ble rfl
theorem set1PswlBit (bit : BitVec 3) : Statement (.set1PswlBit bit) := of_ble rfl
theorem set1Cy : Statement .set1Cy := of_ble rfl
theorem clr1SaddrBit (off : Byte) (bit : BitVec 3) : Statement (.clr1SaddrBit off bit) := of_ble rfl
theorem clr1SfrBit (off : Byte) (bit : BitVec 3) : Statement (.clr1SfrBit off bit) := of_ble rfl
theorem clr1ABit (bit : BitVec 3) : Statement (.clr1ABit bit) := of_ble rfl
theorem clr1XBit (bit : BitVec 3) : Statement (.clr1XBit bit) := of_ble rfl
theorem clr1PswhBit (bit : BitVec 3) : Statement (.clr1PswhBit bit) := of_ble rfl
theorem clr1PswlBit (bit : BitVec 3) : Statement (.clr1PswlBit bit) := of_ble rfl
theorem clr1Cy : Statement .clr1Cy := of_ble rfl
theorem not1SaddrBit (off : Byte) (bit : BitVec 3) : Statement (.not1SaddrBit off bit) := of_ble rfl
theorem not1SfrBit (off : Byte) (bit : BitVec 3) : Statement (.not1SfrBit off bit) := of_ble rfl
theorem not1ABit (bit : BitVec 3) : Statement (.not1ABit bit) := of_ble rfl
theorem not1XBit (bit : BitVec 3) : Statement (.not1XBit bit) := of_ble rfl
theorem not1PswhBit (bit : BitVec 3) : Statement (.not1PswhBit bit) := of_ble rfl
theorem not1PswlBit (bit : BitVec 3) : Statement (.not1PswlBit bit) := of_ble rfl
theorem not1Cy : Statement .not1Cy := of_ble rfl
theorem callAddr16 (w : Addr) : Statement (.callAddr16 w) := of_ble rfl
theorem callfAddr11 (f11 : BitVec 11) : Statement (.callfAddr11 f11) := of_ble rfl
theorem calltAddr5 (t5 : BitVec 5) : Statement (.calltAddr5 t5) := of_ble rfl
theorem callRp1 (rp1 : PairNo) : Statement (.callRp1 rp1) := of_ble rfl
theorem callIndRp1 (rp1 : PairNo) : Statement (.callIndRp1 rp1) := of_ble rfl
theorem brk : Statement .brk := of_ble rfl
theorem ret : Statement .ret := of_ble rfl
theorem reti : Statement .reti := of_ble rfl
theorem pushPost (post : Byte) : Statement (.pushPost post) := of_ble rfl
theorem pushPsw : Statement .pushPsw := of_ble rfl
theorem pushuPost (post : Byte) : Statement (.pushuPost post) := of_ble rfl
theorem popPost (post : Byte) : Statement (.popPost post) := of_ble rfl
theorem popPsw : Statement .popPsw := of_ble rfl
theorem popuPost (post : Byte) : Statement (.popuPost post) := of_ble rfl
theorem movwSpWord (w : Word) : Statement (.movwSpWord w) := of_ble rfl
theorem movwSpAx : Statement .movwSpAx := of_ble rfl
theorem movwAxSp : Statement .movwAxSp := of_ble rfl
theorem incwSp : Statement .incwSp := of_ble rfl
theorem decwSp : Statement .decwSp := of_ble rfl
theorem brAddr16 (w : Addr) : Statement (.brAddr16 w) := of_ble rfl
theorem brRp1 (rp1 : PairNo) : Statement (.brRp1 rp1) := of_ble rfl
theorem brIndRp1 (rp1 : PairNo) : Statement (.brIndRp1 rp1) := of_ble rfl
theorem brRel (jdisp : Byte) : Statement (.brRel jdisp) := of_ble rfl
theorem bcRel (jdisp : Byte) : Statement (.bcRel jdisp) := of_ble rfl
theorem bncRel (jdisp : Byte) : Statement (.bncRel jdisp) := of_ble rfl
theorem bzRel (jdisp : Byte) : Statement (.bzRel jdisp) := of_ble rfl
theorem bnzRel (jdisp : Byte) : Statement (.bnzRel jdisp) := of_ble rfl
theorem bvRel (jdisp : Byte) : Statement (.bvRel jdisp) := of_ble rfl
theorem bnvRel (jdisp : Byte) : Statement (.bnvRel jdisp) := of_ble rfl
theorem bnRel (jdisp : Byte) : Statement (.bnRel jdisp) := of_ble rfl
theorem bpRel (jdisp : Byte) : Statement (.bpRel jdisp) := of_ble rfl
theorem bgtRel (jdisp : Byte) : Statement (.bgtRel jdisp) := of_ble rfl
theorem bgeRel (jdisp : Byte) : Statement (.bgeRel jdisp) := of_ble rfl
theorem bltRel (jdisp : Byte) : Statement (.bltRel jdisp) := of_ble rfl
theorem bleRel (jdisp : Byte) : Statement (.bleRel jdisp) := of_ble rfl
theorem bhRel (jdisp : Byte) : Statement (.bhRel jdisp) := of_ble rfl
theorem bnhRel (jdisp : Byte) : Statement (.bnhRel jdisp) := of_ble rfl
theorem btSaddrBitRel (off : Byte) (bit : BitVec 3) (jdisp : Byte) : Statement (.btSaddrBitRel off bit jdisp) := of_ble rfl
theorem btSfrBitRel (off : Byte) (bit : BitVec 3) (jdisp : Byte) : Statement (.btSfrBitRel off bit jdisp) := of_ble rfl
theorem btABitRel (bit : BitVec 3) (jdisp : Byte) : Statement (.btABitRel bit jdisp) := of_ble rfl
theorem btXBitRel (bit : BitVec 3) (jdisp : Byte) : Statement (.btXBitRel bit jdisp) := of_ble rfl
theorem btPswhBitRel (bit : BitVec 3) (jdisp : Byte) : Statement (.btPswhBitRel bit jdisp) := of_ble rfl
theorem btPswlBitRel (bit : BitVec 3) (jdisp : Byte) : Statement (.btPswlBitRel bit jdisp) := of_ble rfl
theorem bfSaddrBitRel (off : Byte) (bit : BitVec 3) (jdisp : Byte) : Statement (.bfSaddrBitRel off bit jdisp) := of_ble rfl
theorem bfSfrBitRel (off : Byte) (bit : BitVec 3) (jdisp : Byte) : Statement (.bfSfrBitRel off bit jdisp) := of_ble rfl
theorem bfABitRel (bit : BitVec 3) (jdisp : Byte) : Statement (.bfABitRel bit jdisp) := of_ble rfl
theorem bfXBitRel (bit : BitVec 3) (jdisp : Byte) : Statement (.bfXBitRel bit jdisp) := of_ble rfl
theorem bfPswhBitRel (bit : BitVec 3) (jdisp : Byte) : Statement (.bfPswhBitRel bit jdisp) := of_ble rfl
theorem bfPswlBitRel (bit : BitVec 3) (jdisp : Byte) : Statement (.bfPswlBitRel bit jdisp) := of_ble rfl
theorem btclrSaddrBitRel (off : Byte) (bit : BitVec 3) (jdisp : Byte) : Statement (.btclrSaddrBitRel off bit jdisp) := of_ble rfl
theorem btclrSfrBitRel (off : Byte) (bit : BitVec 3) (jdisp : Byte) : Statement (.btclrSfrBitRel off bit jdisp) := of_ble rfl
theorem btclrABitRel (bit : BitVec 3) (jdisp : Byte) : Statement (.btclrABitRel bit jdisp) := of_ble rfl
theorem btclrXBitRel (bit : BitVec 3) (jdisp : Byte) : Statement (.btclrXBitRel bit jdisp) := of_ble rfl
theorem btclrPswhBitRel (bit : BitVec 3) (jdisp : Byte) : Statement (.btclrPswhBitRel bit jdisp) := of_ble rfl
theorem btclrPswlBitRel (bit : BitVec 3) (jdisp : Byte) : Statement (.btclrPswlBitRel bit jdisp) := of_ble rfl
theorem bfsetSaddrBitRel (off : Byte) (bit : BitVec 3) (jdisp : Byte) : Statement (.bfsetSaddrBitRel off bit jdisp) := of_ble rfl
theorem bfsetSfrBitRel (off : Byte) (bit : BitVec 3) (jdisp : Byte) : Statement (.bfsetSfrBitRel off bit jdisp) := of_ble rfl
theorem bfsetABitRel (bit : BitVec 3) (jdisp : Byte) : Statement (.bfsetABitRel bit jdisp) := of_ble rfl
theorem bfsetXBitRel (bit : BitVec 3) (jdisp : Byte) : Statement (.bfsetXBitRel bit jdisp) := of_ble rfl
theorem bfsetPswhBitRel (bit : BitVec 3) (jdisp : Byte) : Statement (.bfsetPswhBitRel bit jdisp) := of_ble rfl
theorem bfsetPswlBitRel (bit : BitVec 3) (jdisp : Byte) : Statement (.bfsetPswlBitRel bit jdisp) := of_ble rfl
theorem dbnzR2Rel (r2 : CountReg) (jdisp : Byte) : Statement (.dbnzR2Rel r2 jdisp) := of_ble rfl
theorem dbnzSaddrRel (off : Byte) (jdisp : Byte) : Statement (.dbnzSaddrRel off jdisp) := of_ble rfl
theorem brkcsRbn (n : BitVec 3) : Statement (.brkcsRbn n) := of_ble rfl
theorem retcsAddr16 (w : Addr) : Statement (.retcsAddr16 w) := of_ble rfl
theorem movmInc : Statement .movmInc := of_ble rfl
theorem movmDec : Statement .movmDec := of_ble rfl
theorem movbkInc : Statement .movbkInc := of_ble rfl
theorem movbkDec : Statement .movbkDec := of_ble rfl
theorem xchmInc : Statement .xchmInc := of_ble rfl
theorem xchmDec : Statement .xchmDec := of_ble rfl
theorem xchbkInc : Statement .xchbkInc := of_ble rfl
theorem xchbkDec : Statement .xchbkDec := of_ble rfl
theorem cmpmeInc : Statement .cmpmeInc := of_ble rfl
theorem cmpmeDec : Statement .cmpmeDec := of_ble rfl
theorem cmpbkeInc : Statement .cmpbkeInc := of_ble rfl
theorem cmpbkeDec : Statement .cmpbkeDec := of_ble rfl
theorem cmpmneInc : Statement .cmpmneInc := of_ble rfl
theorem cmpmneDec : Statement .cmpmneDec := of_ble rfl
theorem cmpbkneInc : Statement .cmpbkneInc := of_ble rfl
theorem cmpbkneDec : Statement .cmpbkneDec := of_ble rfl
theorem cmpmcInc : Statement .cmpmcInc := of_ble rfl
theorem cmpmcDec : Statement .cmpmcDec := of_ble rfl
theorem cmpbkcInc : Statement .cmpbkcInc := of_ble rfl
theorem cmpbkcDec : Statement .cmpbkcDec := of_ble rfl
theorem cmpmncInc : Statement .cmpmncInc := of_ble rfl
theorem cmpmncDec : Statement .cmpmncDec := of_ble rfl
theorem cmpbkncInc : Statement .cmpbkncInc := of_ble rfl
theorem cmpbkncDec : Statement .cmpbkncDec := of_ble rfl
theorem movStbcByte (check : Byte) (byte : Byte) : Statement (.movStbcByte check byte) := of_ble rfl
theorem movWdmByte (check : Byte) (byte : Byte) : Statement (.movWdmByte check byte) := of_ble rfl
theorem swrs : Statement .swrs := of_ble rfl
theorem selRbn (n : BitVec 3) : Statement (.selRbn n) := of_ble rfl
theorem selRbnAlt (n : BitVec 3) : Statement (.selRbnAlt n) := of_ble rfl
theorem nop : Statement .nop := of_ble rfl
theorem ei : Statement .ei := of_ble rfl
theorem di : Statement .di := of_ble rfl

end Sys2Proof.Laws.EncodedLength
end

