-- ==== Sys2Proof/Laws/Safety.lean ====
section
/-!
SUPPORT. Laws/Safety.lean: what a step with the refusal of R112 can do, and that a run of such steps is a run of the machine.
-/

namespace Sys2Proof.Machine

/-- No store is in the queue just when the queue holds nothing but what memory holds. -/
theorem storedIntoQueue_eq_false {s : State} : storedIntoQueue s = false ↔ s.prefetch = [] := by
  simp [storedIntoQueue]

/-- An admitted step is a step of the machine that leaves no store in the queue. -/
theorem admittedStep_next {s t : State} : admittedStep s = .next t ↔ step s = .next t ∧ t.prefetch = [] := by
  rw [← storedIntoQueue_eq_false, admittedStep]
  cases h : step s with
  | next u => by_cases hu : storedIntoQueue u = true <;> simp_all <;> rintro rfl <;> simp_all
  | fault f => simp
  | refused r => simp

/-- A step that stores into the queue is refused by name. -/
theorem admittedStep_storeIntoQueue {s t : State} (h : step s = .next t) (hq : t.prefetch ≠ []) :
    admittedStep s = .refused .storeIntoQueue := by
  rw [admittedStep, h]
  simp [storedIntoQueue, hq]

/-- After an admitted step every byte that can be fetched is the one in memory. -/
theorem admittedStep_fetch {s t : State} (h : admittedStep s = .next t) {a : Addr} (ha : a.toNat < 0xFF00) :
    fetchByte a t = readByte 8 a t := by
  have hq : queued t a = [] := by simp [queued, (admittedStep_next.mp h).2]
  simp [fetchByte, hq, Nat.not_le.mpr ha]

/-- What a run of one step more can do: a step, and the run from there. -/
theorem run_succ_next {M : Host.Core} {k : Nat} {s t : M.State} :
    M.run (k + 1) s = .next t ↔ ∃ u, M.step s = .next u ∧ M.run k u = .next t := by
  simp only [Host.Core.run]
  cases M.step s <;> simp

/-- A run with the refusal of R112 is a run of the machine. -/
theorem admittedCore_run {k : Nat} {s t : State} (h : admittedCore.run k s = .next t) : Sys2Proof.core.run k s = .next t := by
  induction k generalizing s with
  | zero => exact h
  | succ k ih =>
    obtain ⟨u, hs, hu⟩ := run_succ_next.mp h
    exact run_succ_next.mpr ⟨u, (admittedStep_next.mp hs).1, ih hu⟩

end Sys2Proof.Machine
end

