-- ==== Sys2Proof/Tests/Slice0.lean ====
section
/-!
SUPPORT. Tests/Slice0.lean: tests of the model against words and states written out from the specification, and for every obligation
with hypotheses a state that meets them.
-/

namespace Sys2Proof.Tests

open Sys2Proof.Machine

/-- Every list of bytes decodes to the instruction beside it. -/
def decodesAll (l : List (List Byte × Instr)) : Prop :=
  (l.map fun e => decode e.1) = l.map fun e => .ok (e.2, [])

/-- A state with bytes placed in memory. -/
def put (l : List (Nat × Byte)) (s : State) : State := { s with mem := l.foldl (fun m c => m.set c.1 c.2) s.mem }

/-- The start state of the vectors of 95_test_vectors.md: bytes, then pc, SP, PSWL and PSWH. -/
def start (l : List (Nat × Byte)) (r : Addr × Addr × Byte × Byte) : State :=
  put l { State.reset with pc := r.1, sp := r.2.1, psw := State.reset.psw.restore r.2.2.1 r.2.2.2 }

-- What builds an Instr has no compiled code (see Decode.lean).
noncomputable section

/-- One step from a start state gives pc, SP, PSWL (where AC is free, all of it but AC) and PSWH, and the listed bytes. -/
def runs (l : List (Nat × Byte)) (r q : Addr × Addr × Byte × Byte) (ac : Bool) (after : List (Nat × Byte)) : Bool :=
  match step (start l r) with
  | .next t =>
    t.pc == q.1 && t.sp == q.2.1 && (if ac then t.psw else { t.psw with ac := false }).low == q.2.2.1 &&
      t.psw.high == q.2.2.2 && after.all fun c => t.byte c.1 == c.2
  | _ => false

end

/-! ## Well-formedness (R34, R92): one ill-formed term for each check -/

theorem test_wf_odd_saddrp : (Instr.movwAxSaddrp 0x41#8).wellFormed = false := by decide
theorem test_wf_odd_pointer : (Instr.movAIndSaddrp 0x41#8).wellFormed = false := by decide
theorem test_wf_odd_destination : (Instr.movwSaddrpSaddrp 0x41#8 0x40#8).wellFormed = false := by decide
theorem test_wf_odd_source : (Instr.movwSaddrpSaddrp 0x40#8 0x41#8).wellFormed = false := by decide
theorem test_wf_odd_sfrp : (Instr.movwAxSfrp 0x09#8).wellFormed = false := by decide
theorem test_wf_sfrp_sp : (Instr.movwAxSfrp 0xFC#8).wellFormed = false := by decide
theorem test_wf_sfr_psw : (Instr.movASfr 0xFE#8).wellFormed = false := by decide
theorem test_wf_sfr_last : (Instr.movASfr 0xFB#8).wellFormed = true := by decide
theorem test_wf_saddrp_even : (Instr.movwAxSaddrp 0xFE#8).wellFormed = true := by decide

/-! ## Decoding: the words are written out from the encodings of the opcode table (R140 to R149), every constructor once -/

theorem test_decode_data_transfer1 : decodesAll [
    ([0xB9#8, 0x5A#8], .movR1Byte 1#3 0x5A#8),
    ([0x3A#8, 0x46#8, 0x5A#8], .movSaddrByte 0x46#8 0x5A#8),
    ([0x2B#8, 0x46#8, 0x5A#8], .movSfrByte 0x46#8 0x5A#8),
    ([0x24#8, 0xC4#8], .movRR1 12#4 4#3),
    ([0xD5#8], .movAR1 5#3),
    ([0x20#8, 0x46#8], .movASaddr 0x46#8),
    ([0x22#8, 0x46#8], .movSaddrA 0x46#8),
    ([0x10#8, 0x46#8], .movASfr 0x46#8),
    ([0x12#8, 0x46#8], .movSfrA 0x46#8),
    ([0x5A#8], .movAMem1 .deDec),
    ([0x06#8, 0x10#8, 0x85#8], .movAMem (.spByte 0x85#8)),
    ([0x52#8], .movMemA1 .deDec),
    ([0x17#8, 0x80#8], .movMemA .deA),
    ([0x2B#8, 0xFE#8, 0x5A#8], .movPswlByte 0x5A#8),
    ([0x2B#8, 0xFF#8, 0x5A#8], .movPswhByte 0x5A#8),
    ([0x12#8, 0xFE#8], .movPswlA),
    ([0x12#8, 0xFF#8], .movPswhA),
    ([0x10#8, 0xFE#8], .movAPswl),
    ([0x10#8, 0xFF#8], .movAPswh),
    ([0x38#8, 0x46#8, 0x92#8], .movSaddrSaddr 0x92#8 0x46#8),
    ([0x18#8, 0x46#8], .movAIndSaddrp 0x46#8),
    ([0x19#8, 0x46#8], .movIndSaddrpA 0x46#8),
    ([0x09#8, 0xF0#8, 0x34#8, 0x12#8], .movAAddr16 0x1234#16),
    ([0x09#8, 0xF1#8, 0x34#8, 0x12#8], .movAddr16A 0x1234#16),
    ([0xDC#8], .xchAR1 4#3),
    ([0x25#8, 0xC5#8], .xchRR1 12#4 5#3),
    ([0x06#8, 0x14#8, 0x85#8], .xchAMem (.spByte 0x85#8)),
    ([0x21#8, 0x46#8], .xchASaddr 0x46#8),
    ([0x01#8, 0x21#8, 0x46#8], .xchASfr 0x46#8),
    ([0x23#8, 0x46#8], .xchAIndSaddrp 0x46#8),
    ([0x39#8, 0x46#8, 0x92#8], .xchSaddrSaddr 0x92#8 0x46#8),
    ([0x66#8, 0x34#8, 0x12#8], .movwRp1Word 3#3 0x1234#16),
    ([0x0C#8, 0x46#8, 0x34#8, 0x12#8], .movwSaddrpWord 0x46#8 0x1234#16),
    ([0x0B#8, 0x46#8, 0x34#8, 0x12#8], .movwSfrpWord 0x46#8 0x1234#16),
    ([0x24#8, 0xC9#8], .movwRpRp1 6#3 4#3),
    ([0x1C#8, 0x46#8], .movwAxSaddrp 0x46#8)] := rfl

theorem test_decode_data_transfer2 : decodesAll [
    ([0x1A#8, 0x46#8], .movwSaddrpAx 0x46#8),
    ([0x3C#8, 0x46#8, 0x92#8], .movwSaddrpSaddrp 0x92#8 0x46#8),
    ([0x11#8, 0x46#8], .movwAxSfrp 0x46#8),
    ([0x13#8, 0x46#8], .movwSfrpAx 0x46#8),
    ([0x09#8, 0x83#8, 0x34#8, 0x12#8], .movwRp1Addr16 5#3 0x1234#16),
    ([0x09#8, 0x95#8, 0x34#8, 0x12#8], .movwAddr16Rp1 0x1234#16 6#3),
    ([0x1B#8, 0x46#8], .xchwAxSaddrp 0x46#8),
    ([0x01#8, 0x1B#8, 0x46#8], .xchwAxSfrp 0x46#8),
    ([0x2A#8, 0x46#8, 0x92#8], .xchwSaddrpSaddrp 0x92#8 0x46#8),
    ([0x25#8, 0xCD#8], .xchwRpRp1 6#3 6#3)] := rfl

theorem test_decode_alu81 : decodesAll [
    ([0xA8#8, 0x5A#8], .addAByte 0x5A#8),
    ([0x68#8, 0x46#8, 0x5A#8], .addSaddrByte 0x46#8 0x5A#8),
    ([0x01#8, 0x68#8, 0x46#8, 0x5A#8], .addSfrByte 0x46#8 0x5A#8),
    ([0x88#8, 0xC1#8], .addRR1 12#4 1#3),
    ([0x98#8, 0x46#8], .addASaddr 0x46#8),
    ([0x01#8, 0x98#8, 0x46#8], .addASfr 0x46#8),
    ([0x78#8, 0x46#8, 0x92#8], .addSaddrSaddr 0x92#8 0x46#8),
    ([0x16#8, 0x28#8], .addAMem .deDec),
    ([0x0A#8, 0x88#8, 0x34#8, 0x12#8], .addMemA (.wordDe 0x1234#16)),
    ([0xA9#8, 0x5A#8], .addcAByte 0x5A#8),
    ([0x69#8, 0x46#8, 0x5A#8], .addcSaddrByte 0x46#8 0x5A#8),
    ([0x01#8, 0x69#8, 0x46#8, 0x5A#8], .addcSfrByte 0x46#8 0x5A#8),
    ([0x89#8, 0xC3#8], .addcRR1 12#4 3#3),
    ([0x99#8, 0x46#8], .addcASaddr 0x46#8),
    ([0x01#8, 0x99#8, 0x46#8], .addcASfr 0x46#8),
    ([0x79#8, 0x46#8, 0x92#8], .addcSaddrSaddr 0x92#8 0x46#8),
    ([0x0A#8, 0x09#8, 0x34#8, 0x12#8], .addcAMem (.wordDe 0x1234#16)),
    ([0x06#8, 0xC9#8, 0x85#8], .addcMemA (.vpByte 0x85#8)),
    ([0xAA#8, 0x5A#8], .subAByte 0x5A#8),
    ([0x6A#8, 0x46#8, 0x5A#8], .subSaddrByte 0x46#8 0x5A#8),
    ([0x01#8, 0x6A#8, 0x46#8, 0x5A#8], .subSfrByte 0x46#8 0x5A#8),
    ([0x8A#8, 0xC5#8], .subRR1 12#4 5#3),
    ([0x9A#8, 0x46#8], .subASaddr 0x46#8),
    ([0x01#8, 0x9A#8, 0x46#8], .subASfr 0x46#8),
    ([0x7A#8, 0x46#8, 0x92#8], .subSaddrSaddr 0x92#8 0x46#8),
    ([0x06#8, 0x4A#8, 0x85#8], .subAMem (.vpByte 0x85#8)),
    ([0x16#8, 0xEA#8], .subMemA .vp),
    ([0xAB#8, 0x5A#8], .subcAByte 0x5A#8),
    ([0x6B#8, 0x46#8, 0x5A#8], .subcSaddrByte 0x46#8 0x5A#8),
    ([0x01#8, 0x6B#8, 0x46#8, 0x5A#8], .subcSfrByte 0x46#8 0x5A#8),
    ([0x8B#8, 0xC7#8], .subcRR1 12#4 7#3),
    ([0x9B#8, 0x46#8], .subcASaddr 0x46#8),
    ([0x01#8, 0x9B#8, 0x46#8], .subcASfr 0x46#8),
    ([0x7B#8, 0x46#8, 0x92#8], .subcSaddrSaddr 0x92#8 0x46#8),
    ([0x16#8, 0x6B#8], .subcAMem .vp),
    ([0x17#8, 0xDB#8], .subcMemA .vpHl)] := rfl

theorem test_decode_alu82 : decodesAll [
    ([0xAC#8, 0x5A#8], .andAByte 0x5A#8),
    ([0x6C#8, 0x46#8, 0x5A#8], .andSaddrByte 0x46#8 0x5A#8),
    ([0x01#8, 0x6C#8, 0x46#8, 0x5A#8], .andSfrByte 0x46#8 0x5A#8),
    ([0x8C#8, 0xC2#8], .andRR1 12#4 2#3),
    ([0x9C#8, 0x46#8], .andASaddr 0x46#8),
    ([0x01#8, 0x9C#8, 0x46#8], .andASfr 0x46#8),
    ([0x7C#8, 0x46#8, 0x92#8], .andSaddrSaddr 0x92#8 0x46#8),
    ([0x17#8, 0x5C#8], .andAMem .vpHl),
    ([0x06#8, 0x9C#8, 0x85#8], .andMemA (.spByte 0x85#8)),
    ([0xAD#8, 0x5A#8], .xorAByte 0x5A#8),
    ([0x6D#8, 0x46#8, 0x5A#8], .xorSaddrByte 0x46#8 0x5A#8),
    ([0x01#8, 0x6D#8, 0x46#8, 0x5A#8], .xorSfrByte 0x46#8 0x5A#8),
    ([0x8D#8, 0xC4#8], .xorRR1 12#4 4#3),
    ([0x9D#8, 0x46#8], .xorASaddr 0x46#8),
    ([0x01#8, 0x9D#8, 0x46#8], .xorASfr 0x46#8),
    ([0x7D#8, 0x46#8, 0x92#8], .xorSaddrSaddr 0x92#8 0x46#8),
    ([0x06#8, 0x1D#8, 0x85#8], .xorAMem (.spByte 0x85#8)),
    ([0x0A#8, 0xBD#8, 0x34#8, 0x12#8], .xorMemA (.wordB 0x1234#16)),
    ([0xAE#8, 0x5A#8], .orAByte 0x5A#8),
    ([0x6E#8, 0x46#8, 0x5A#8], .orSaddrByte 0x46#8 0x5A#8),
    ([0x01#8, 0x6E#8, 0x46#8, 0x5A#8], .orSfrByte 0x46#8 0x5A#8),
    ([0x8E#8, 0xC6#8], .orRR1 12#4 6#3),
    ([0x9E#8, 0x46#8], .orASaddr 0x46#8),
    ([0x01#8, 0x9E#8, 0x46#8], .orASfr 0x46#8),
    ([0x7E#8, 0x46#8, 0x92#8], .orSaddrSaddr 0x92#8 0x46#8),
    ([0x0A#8, 0x3E#8, 0x34#8, 0x12#8], .orAMem (.wordB 0x1234#16)),
    ([0x17#8, 0x8E#8], .orMemA .deA),
    ([0xAF#8, 0x5A#8], .cmpAByte 0x5A#8),
    ([0x6F#8, 0x46#8, 0x5A#8], .cmpSaddrByte 0x46#8 0x5A#8),
    ([0x01#8, 0x6F#8, 0x46#8, 0x5A#8], .cmpSfrByte 0x46#8 0x5A#8),
    ([0x8F#8, 0xC1#8], .cmpRR1 12#4 1#3),
    ([0x9F#8, 0x46#8], .cmpASaddr 0x46#8),
    ([0x01#8, 0x9F#8, 0x46#8], .cmpASfr 0x46#8),
    ([0x7F#8, 0x46#8, 0x92#8], .cmpSaddrSaddr 0x92#8 0x46#8),
    ([0x17#8, 0x0F#8], .cmpAMem .deA),
    ([0x16#8, 0xAF#8], .cmpMemA .deDec)] := rfl

theorem test_decode_alu16 : decodesAll [
    ([0x2D#8, 0x34#8, 0x12#8], .addwAxWord 0x1234#16),
    ([0x0D#8, 0x46#8, 0x34#8, 0x12#8], .addwSaddrpWord 0x46#8 0x1234#16),
    ([0x01#8, 0x0D#8, 0x46#8, 0x34#8, 0x12#8], .addwSfrpWord 0x46#8 0x1234#16),
    ([0x88#8, 0xCD#8], .addwRpRp1 6#3 6#3),
    ([0x1D#8, 0x46#8], .addwAxSaddrp 0x46#8),
    ([0x01#8, 0x1D#8, 0x46#8], .addwAxSfrp 0x46#8),
    ([0x3D#8, 0x46#8, 0x92#8], .addwSaddrpSaddrp 0x92#8 0x46#8),
    ([0x2E#8, 0x34#8, 0x12#8], .subwAxWord 0x1234#16),
    ([0x0E#8, 0x46#8, 0x34#8, 0x12#8], .subwSaddrpWord 0x46#8 0x1234#16),
    ([0x01#8, 0x0E#8, 0x46#8, 0x34#8, 0x12#8], .subwSfrpWord 0x46#8 0x1234#16),
    ([0x8A#8, 0xCB#8], .subwRpRp1 6#3 5#3),
    ([0x1E#8, 0x46#8], .subwAxSaddrp 0x46#8),
    ([0x01#8, 0x1E#8, 0x46#8], .subwAxSfrp 0x46#8),
    ([0x3E#8, 0x46#8, 0x92#8], .subwSaddrpSaddrp 0x92#8 0x46#8),
    ([0x2F#8, 0x34#8, 0x12#8], .cmpwAxWord 0x1234#16),
    ([0x0F#8, 0x46#8, 0x34#8, 0x12#8], .cmpwSaddrpWord 0x46#8 0x1234#16),
    ([0x01#8, 0x0F#8, 0x46#8, 0x34#8, 0x12#8], .cmpwSfrpWord 0x46#8 0x1234#16),
    ([0x8F#8, 0xCE#8], .cmpwRpRp1 6#3 3#3),
    ([0x1F#8, 0x46#8], .cmpwAxSaddrp 0x46#8),
    ([0x01#8, 0x1F#8, 0x46#8], .cmpwAxSfrp 0x46#8),
    ([0x3F#8, 0x46#8, 0x92#8], .cmpwSaddrpSaddrp 0x92#8 0x46#8)] := rfl

theorem test_decode_muldiv : decodesAll [
    ([0x05#8, 0x0F#8], .muluR1 7#3),
    ([0x05#8, 0x19#8], .divuwR1 1#3),
    ([0x05#8, 0x2D#8], .muluwRp1 6#3),
    ([0x05#8, 0xE9#8], .divuxRp1 4#3),
    ([0xC4#8], .incR1 4#3),
    ([0x26#8, 0x46#8], .incSaddr 0x46#8),
    ([0xCE#8], .decR1 6#3),
    ([0x27#8, 0x46#8], .decSaddr 0x46#8),
    ([0x45#8], .incwRp2 .up),
    ([0x07#8, 0xE8#8, 0x46#8], .incwSaddrp 0x46#8),
    ([0x4D#8], .decwRp2 .up),
    ([0x07#8, 0xE9#8, 0x46#8], .decwSaddrp 0x46#8)] := rfl

theorem test_decode_shift : decodesAll [
    ([0x30#8, 0x5D#8], .rorR1N 5#3 3#3),
    ([0x31#8, 0x5E#8], .rolR1N 6#3 3#3),
    ([0x30#8, 0x1F#8], .rorcR1N 7#3 3#3),
    ([0x31#8, 0x19#8], .rolcR1N 1#3 3#3),
    ([0x30#8, 0x9A#8], .shrR1N 2#3 3#3),
    ([0x31#8, 0x9B#8], .shlR1N 3#3 3#3),
    ([0x30#8, 0xDD#8], .shrwRp1N 6#3 3#3),
    ([0x31#8, 0xD9#8], .shlwRp1N 4#3 3#3),
    ([0x05#8, 0x8E#8], .ror4IndRp1 3#3),
    ([0x05#8, 0x9B#8], .rol4IndRp1 5#3),
    ([0x04#8], .adj4)] := rfl

theorem test_decode_bits1 : decodesAll [
    ([0x08#8, 0x02#8, 0x46#8], .mov1CySaddrBit 0x46#8 2#3),
    ([0x08#8, 0x0B#8, 0x46#8], .mov1CySfrBit 0x46#8 3#3),
    ([0x03#8, 0x0C#8], .mov1CyABit 4#3),
    ([0x03#8, 0x05#8], .mov1CyXBit 5#3),
    ([0x02#8, 0x0E#8], .mov1CyPswhBit 6#3),
    ([0x02#8, 0x07#8], .mov1CyPswlBit 7#3),
    ([0x08#8, 0x11#8, 0x46#8], .mov1SaddrBitCy 0x46#8 1#3),
    ([0x08#8, 0x1A#8, 0x46#8], .mov1SfrBitCy 0x46#8 2#3),
    ([0x03#8, 0x1B#8], .mov1ABitCy 3#3),
    ([0x03#8, 0x14#8], .mov1XBitCy 4#3),
    ([0x02#8, 0x1D#8], .mov1PswhBitCy 5#3),
    ([0x02#8, 0x16#8], .mov1PswlBitCy 6#3),
    ([0x08#8, 0x27#8, 0x46#8], .and1CySaddrBit 0x46#8 7#3),
    ([0x08#8, 0x31#8, 0x46#8], .and1CyNotSaddrBit 0x46#8 1#3),
    ([0x08#8, 0x2A#8, 0x46#8], .and1CySfrBit 0x46#8 2#3),
    ([0x08#8, 0x3B#8, 0x46#8], .and1CyNotSfrBit 0x46#8 3#3),
    ([0x03#8, 0x2C#8], .and1CyABit 4#3),
    ([0x03#8, 0x3D#8], .and1CyNotABit 5#3),
    ([0x03#8, 0x26#8], .and1CyXBit 6#3),
    ([0x03#8, 0x37#8], .and1CyNotXBit 7#3),
    ([0x02#8, 0x29#8], .and1CyPswhBit 1#3),
    ([0x02#8, 0x3A#8], .and1CyNotPswhBit 2#3),
    ([0x02#8, 0x23#8], .and1CyPswlBit 3#3),
    ([0x02#8, 0x34#8], .and1CyNotPswlBit 4#3),
    ([0x08#8, 0x45#8, 0x46#8], .or1CySaddrBit 0x46#8 5#3),
    ([0x08#8, 0x56#8, 0x46#8], .or1CyNotSaddrBit 0x46#8 6#3),
    ([0x08#8, 0x4F#8, 0x46#8], .or1CySfrBit 0x46#8 7#3),
    ([0x08#8, 0x59#8, 0x46#8], .or1CyNotSfrBit 0x46#8 1#3),
    ([0x03#8, 0x4A#8], .or1CyABit 2#3),
    ([0x03#8, 0x5B#8], .or1CyNotABit 3#3),
    ([0x03#8, 0x44#8], .or1CyXBit 4#3),
    ([0x03#8, 0x55#8], .or1CyNotXBit 5#3),
    ([0x02#8, 0x4E#8], .or1CyPswhBit 6#3),
    ([0x02#8, 0x5F#8], .or1CyNotPswhBit 7#3),
    ([0x02#8, 0x41#8], .or1CyPswlBit 1#3),
    ([0x02#8, 0x52#8], .or1CyNotPswlBit 2#3)] := rfl

theorem test_decode_bits2 : decodesAll [
    ([0x08#8, 0x63#8, 0x46#8], .xor1CySaddrBit 0x46#8 3#3),
    ([0x08#8, 0x6C#8, 0x46#8], .xor1CySfrBit 0x46#8 4#3),
    ([0x03#8, 0x6D#8], .xor1CyABit 5#3),
    ([0x03#8, 0x66#8], .xor1CyXBit 6#3),
    ([0x02#8, 0x6F#8], .xor1CyPswhBit 7#3),
    ([0x02#8, 0x61#8], .xor1CyPswlBit 1#3),
    ([0xB2#8, 0x46#8], .set1SaddrBit 0x46#8 2#3),
    ([0x08#8, 0x8B#8, 0x46#8], .set1SfrBit 0x46#8 3#3),
    ([0x03#8, 0x8C#8], .set1ABit 4#3),
    ([0x03#8, 0x85#8], .set1XBit 5#3),
    ([0x02#8, 0x8E#8], .set1PswhBit 6#3),
    ([0x02#8, 0x87#8], .set1PswlBit 7#3),
    ([0x41#8], .set1Cy),
    ([0xA2#8, 0x46#8], .clr1SaddrBit 0x46#8 2#3),
    ([0x08#8, 0x9B#8, 0x46#8], .clr1SfrBit 0x46#8 3#3),
    ([0x03#8, 0x9C#8], .clr1ABit 4#3),
    ([0x03#8, 0x95#8], .clr1XBit 5#3),
    ([0x02#8, 0x9E#8], .clr1PswhBit 6#3),
    ([0x02#8, 0x97#8], .clr1PswlBit 7#3),
    ([0x40#8], .clr1Cy),
    ([0x08#8, 0x72#8, 0x46#8], .not1SaddrBit 0x46#8 2#3),
    ([0x08#8, 0x7B#8, 0x46#8], .not1SfrBit 0x46#8 3#3),
    ([0x03#8, 0x7C#8], .not1ABit 4#3),
    ([0x03#8, 0x75#8], .not1XBit 5#3),
    ([0x02#8, 0x7E#8], .not1PswhBit 6#3),
    ([0x02#8, 0x77#8], .not1PswlBit 7#3),
    ([0x42#8], .not1Cy)] := rfl

theorem test_decode_call_stack : decodesAll [
    ([0x28#8, 0x34#8, 0x12#8], .callAddr16 0x1234#16),
    ([0x95#8, 0x35#8], .callfAddr11 0x535#11),
    ([0xF5#8], .calltAddr5 21#5),
    ([0x05#8, 0x5B#8], .callRp1 5#3),
    ([0x05#8, 0x7D#8], .callIndRp1 6#3),
    ([0x5E#8], .brk),
    ([0x56#8], .ret),
    ([0x57#8], .reti),
    ([0x35#8, 0x92#8], .pushPost 0x92#8),
    ([0x49#8], .pushPsw),
    ([0x37#8, 0x92#8], .pushuPost 0x92#8),
    ([0x34#8, 0x92#8], .popPost 0x92#8),
    ([0x48#8], .popPsw),
    ([0x36#8, 0x92#8], .popuPost 0x92#8),
    ([0x0B#8, 0xFC#8, 0x34#8, 0x12#8], .movwSpWord 0x1234#16),
    ([0x13#8, 0xFC#8], .movwSpAx),
    ([0x11#8, 0xFC#8], .movwAxSp),
    ([0x05#8, 0xC8#8], .incwSp),
    ([0x05#8, 0xC9#8], .decwSp)] := rfl

theorem test_decode_branch1 : decodesAll [
    ([0x2C#8, 0x34#8, 0x12#8], .brAddr16 0x1234#16),
    ([0x05#8, 0x4D#8], .brRp1 6#3),
    ([0x05#8, 0x69#8], .brIndRp1 4#3),
    ([0x14#8, 0xF3#8], .brRel 0xF3#8),
    ([0x83#8, 0xF3#8], .bcRel 0xF3#8),
    ([0x82#8, 0xF3#8], .bncRel 0xF3#8),
    ([0x81#8, 0xF3#8], .bzRel 0xF3#8),
    ([0x80#8, 0xF3#8], .bnzRel 0xF3#8),
    ([0x85#8, 0xF3#8], .bvRel 0xF3#8),
    ([0x84#8, 0xF3#8], .bnvRel 0xF3#8),
    ([0x87#8, 0xF3#8], .bnRel 0xF3#8),
    ([0x86#8, 0xF3#8], .bpRel 0xF3#8),
    ([0x07#8, 0xFB#8, 0xF3#8], .bgtRel 0xF3#8),
    ([0x07#8, 0xF9#8, 0xF3#8], .bgeRel 0xF3#8),
    ([0x07#8, 0xF8#8, 0xF3#8], .bltRel 0xF3#8),
    ([0x07#8, 0xFA#8, 0xF3#8], .bleRel 0xF3#8),
    ([0x07#8, 0xFD#8, 0xF3#8], .bhRel 0xF3#8),
    ([0x07#8, 0xFC#8, 0xF3#8], .bnhRel 0xF3#8),
    ([0x74#8, 0x46#8, 0xF3#8], .btSaddrBitRel 0x46#8 4#3 0xF3#8),
    ([0x08#8, 0xBD#8, 0x46#8, 0xF3#8], .btSfrBitRel 0x46#8 5#3 0xF3#8),
    ([0x03#8, 0xBE#8, 0xF3#8], .btABitRel 6#3 0xF3#8),
    ([0x03#8, 0xB7#8, 0xF3#8], .btXBitRel 7#3 0xF3#8),
    ([0x02#8, 0xB9#8, 0xF3#8], .btPswhBitRel 1#3 0xF3#8),
    ([0x02#8, 0xB2#8, 0xF3#8], .btPswlBitRel 2#3 0xF3#8),
    ([0x08#8, 0xA3#8, 0x46#8, 0xF3#8], .bfSaddrBitRel 0x46#8 3#3 0xF3#8),
    ([0x08#8, 0xAC#8, 0x46#8, 0xF3#8], .bfSfrBitRel 0x46#8 4#3 0xF3#8),
    ([0x03#8, 0xAD#8, 0xF3#8], .bfABitRel 5#3 0xF3#8),
    ([0x03#8, 0xA6#8, 0xF3#8], .bfXBitRel 6#3 0xF3#8),
    ([0x02#8, 0xAF#8, 0xF3#8], .bfPswhBitRel 7#3 0xF3#8),
    ([0x02#8, 0xA1#8, 0xF3#8], .bfPswlBitRel 1#3 0xF3#8),
    ([0x08#8, 0xD2#8, 0x46#8, 0xF3#8], .btclrSaddrBitRel 0x46#8 2#3 0xF3#8),
    ([0x08#8, 0xDB#8, 0x46#8, 0xF3#8], .btclrSfrBitRel 0x46#8 3#3 0xF3#8),
    ([0x03#8, 0xDC#8, 0xF3#8], .btclrABitRel 4#3 0xF3#8),
    ([0x03#8, 0xD5#8, 0xF3#8], .btclrXBitRel 5#3 0xF3#8),
    ([0x02#8, 0xDE#8, 0xF3#8], .btclrPswhBitRel 6#3 0xF3#8),
    ([0x02#8, 0xD7#8, 0xF3#8], .btclrPswlBitRel 7#3 0xF3#8)] := rfl

theorem test_decode_branch2 : decodesAll [
    ([0x08#8, 0xC1#8, 0x46#8, 0xF3#8], .bfsetSaddrBitRel 0x46#8 1#3 0xF3#8),
    ([0x08#8, 0xCA#8, 0x46#8, 0xF3#8], .bfsetSfrBitRel 0x46#8 2#3 0xF3#8),
    ([0x03#8, 0xCB#8, 0xF3#8], .bfsetABitRel 3#3 0xF3#8),
    ([0x03#8, 0xC4#8, 0xF3#8], .bfsetXBitRel 4#3 0xF3#8),
    ([0x02#8, 0xCD#8, 0xF3#8], .bfsetPswhBitRel 5#3 0xF3#8),
    ([0x02#8, 0xC6#8, 0xF3#8], .bfsetPswlBitRel 6#3 0xF3#8),
    ([0x33#8, 0xF3#8], .dbnzR2Rel .b 0xF3#8),
    ([0x3B#8, 0x46#8, 0xF3#8], .dbnzSaddrRel 0x46#8 0xF3#8)] := rfl

theorem test_decode_context_string : decodesAll [
    ([0x05#8, 0xDB#8], .brkcsRbn 3#3),
    ([0x29#8, 0x34#8, 0x12#8], .retcsAddr16 0x1234#16),
    ([0x15#8, 0x00#8], .movmInc),
    ([0x15#8, 0x10#8], .movmDec),
    ([0x15#8, 0x20#8], .movbkInc),
    ([0x15#8, 0x30#8], .movbkDec),
    ([0x15#8, 0x01#8], .xchmInc),
    ([0x15#8, 0x11#8], .xchmDec),
    ([0x15#8, 0x21#8], .xchbkInc),
    ([0x15#8, 0x31#8], .xchbkDec),
    ([0x15#8, 0x04#8], .cmpmeInc),
    ([0x15#8, 0x14#8], .cmpmeDec),
    ([0x15#8, 0x24#8], .cmpbkeInc),
    ([0x15#8, 0x34#8], .cmpbkeDec),
    ([0x15#8, 0x05#8], .cmpmneInc),
    ([0x15#8, 0x15#8], .cmpmneDec),
    ([0x15#8, 0x25#8], .cmpbkneInc),
    ([0x15#8, 0x35#8], .cmpbkneDec),
    ([0x15#8, 0x07#8], .cmpmcInc),
    ([0x15#8, 0x17#8], .cmpmcDec),
    ([0x15#8, 0x27#8], .cmpbkcInc),
    ([0x15#8, 0x37#8], .cmpbkcDec),
    ([0x15#8, 0x06#8], .cmpmncInc),
    ([0x15#8, 0x16#8], .cmpmncDec),
    ([0x15#8, 0x26#8], .cmpbkncInc),
    ([0x15#8, 0x36#8], .cmpbkncDec),
    ([0x09#8, 0x44#8, 0xA5#8, 0x5A#8], .movStbcByte 0xA5#8 0x5A#8),
    ([0x09#8, 0x42#8, 0xA5#8, 0x5A#8], .movWdmByte 0xA5#8 0x5A#8),
    ([0x43#8], .swrs),
    ([0x05#8, 0xAB#8], .selRbn 3#3),
    ([0x05#8, 0xBB#8], .selRbnAlt 3#3),
    ([0x00#8], .nop),
    ([0x4B#8], .ei),
    ([0x4A#8], .di)] := rfl

theorem test_decode_memory_operands : decodesAll [
    ([0x16#8, 0x00#8], .movAMem .deInc),
    ([0x16#8, 0x10#8], .movAMem .hlInc),
    ([0x16#8, 0x20#8], .movAMem .deDec),
    ([0x16#8, 0x30#8], .movAMem .hlDec),
    ([0x16#8, 0x40#8], .movAMem .de),
    ([0x16#8, 0x50#8], .movAMem .hl),
    ([0x16#8, 0x60#8], .movAMem .vp),
    ([0x16#8, 0x70#8], .movAMem .up),
    ([0x17#8, 0x00#8], .movAMem .deA),
    ([0x17#8, 0x10#8], .movAMem .hlA),
    ([0x17#8, 0x20#8], .movAMem .deB),
    ([0x17#8, 0x30#8], .movAMem .hlB),
    ([0x17#8, 0x40#8], .movAMem .vpDe),
    ([0x17#8, 0x50#8], .movAMem .vpHl),
    ([0x06#8, 0x00#8, 0xFF#8], .movAMem (.deByte 0xFF#8)),
    ([0x06#8, 0x10#8, 0xFF#8], .movAMem (.spByte 0xFF#8)),
    ([0x06#8, 0x20#8, 0xFF#8], .movAMem (.hlByte 0xFF#8)),
    ([0x06#8, 0x30#8, 0xFF#8], .movAMem (.upByte 0xFF#8)),
    ([0x06#8, 0x40#8, 0xFF#8], .movAMem (.vpByte 0xFF#8)),
    ([0x0A#8, 0x00#8, 0xF0#8, 0xFF#8], .movAMem (.wordDe 0xFFF0#16)),
    ([0x0A#8, 0x10#8, 0xF0#8, 0xFF#8], .movAMem (.wordA 0xFFF0#16)),
    ([0x0A#8, 0x20#8, 0xF0#8, 0xFF#8], .movAMem (.wordHl 0xFFF0#16)),
    ([0x0A#8, 0x30#8, 0xF0#8, 0xFF#8], .movAMem (.wordB 0xFFF0#16))] := rfl

theorem test_decode_unassigned : decode [0x5F#8] = .error (.unassignedFirst 0x5F#8) := rfl
theorem test_decode_truncated : decode [0x28#8, 0x00#8] = .error .truncated := rfl
theorem test_decode_table_word : decodeTableWord 16 0xB95A = some (.movR1Byte 1#3 0x5A#8) := rfl

/-! ## One step from the start states of 95_test_vectors.md -/

theorem test_vectors_data_transfer : [
    -- V1: MOV R1,#5AH, R201
    runs [(0x0100, 0xB9#8), (0x0101, 0x5A#8)]
      (0x0100#16, 0xFE80#16, 0x00#8, 0x00#8) (0x0102#16, 0xFE80#16, 0x00#8, 0x00#8) true
      [(0xFEF1, 0x5A#8)],
    -- V2: MOV A,R3, R205; 10_state.md R24
    runs [(0x0100, 0xD3#8), (0xFEF3, 0x77#8), (0xFEF1, 0x11#8), (0xFEF5, 0x22#8)]
      (0x0100#16, 0xFE80#16, 0x20#8, 0x00#8) (0x0101#16, 0xFE80#16, 0x20#8, 0x00#8) true
      [(0xFEF5, 0x77#8), (0xFEF1, 0x11#8)],
    -- V7: MOV A,[HL+], R210; 20_memory.md R101
    runs [(0x0100, 0x59#8), (0xFE40, 0x12#8), (0xFEFE, 0x40#8), (0xFEFF, 0xFE#8), (0xFEF1, 0x00#8)]
      (0x0100#16, 0xFE80#16, 0x00#8, 0x00#8) (0x0101#16, 0xFE80#16, 0x00#8, 0x00#8) true
      [(0xFEFE, 0x41#8), (0xFEFF, 0xFE#8), (0xFEF1, 0x12#8)],
    -- V12: MOV A,[SP+02H], R211; 20_memory.md R103
    runs [(0x0100, 0x06#8), (0x0101, 0x10#8), (0x0102, 0x02#8), (0xFE7E, 0x41#8), (0xFEF1, 0x00#8)]
      (0x0100#16, 0xFE7C#16, 0x00#8, 0x00#8) (0x0103#16, 0xFE7C#16, 0x00#8, 0x00#8) true
      [(0xFEF1, 0x41#8)],
    -- V13: MOV A,[UP+0FFH], R211; 20_memory.md R103
    runs [(0x0100, 0x06#8), (0x0101, 0x30#8), (0x0102, 0xFF#8), (0xFEFF, 0x3E#8), (0xFEFA, 0x00#8), (0xFEFB, 0xFE#8), (0xFEF1, 0x00#8)]
      (0x0100#16, 0xFE80#16, 0x00#8, 0x00#8) (0x0103#16, 0xFE80#16, 0x00#8, 0x00#8) true
      [(0xFEF1, 0x3E#8)],
    -- V15: MOV 0FFF0H[DE],A, R213; 20_memory.md R104
    runs [(0x0100, 0x0A#8), (0x0101, 0x80#8), (0x0102, 0xF0#8), (0x0103, 0xFF#8), (0xFEFC, 0x50#8), (0xFEFD, 0xFE#8), (0xFEF1, 0x44#8)]
      (0x0100#16, 0xFE80#16, 0x00#8, 0x00#8) (0x0104#16, 0xFE80#16, 0x00#8, 0x00#8) true
      [(0xFE40, 0x44#8)],
    -- V17: MOV 0FE41H,0FE40H, R220; 30_encoding.md R132
    runs [(0x0100, 0x38#8), (0x0101, 0x40#8), (0x0102, 0x41#8), (0xFE40, 0xC3#8), (0xFE41, 0x00#8)]
      (0x0100#16, 0xFE80#16, 0x00#8, 0x00#8) (0x0103#16, 0xFE80#16, 0x00#8, 0x00#8) true
      [(0xFE40, 0xC3#8), (0xFE41, 0xC3#8)],
    -- V18: MOV A,[0FE40H], R221
    runs [(0x0100, 0x18#8), (0x0101, 0x40#8), (0xFE40, 0x00#8), (0xFE41, 0x20#8), (0x2000, 0x77#8), (0xFEF1, 0x00#8)]
      (0x0100#16, 0xFE80#16, 0x00#8, 0x00#8) (0x0102#16, 0xFE80#16, 0x00#8, 0x00#8) true
      [(0xFEF1, 0x77#8)],
    -- V23: MOV A,PSWH, R219; 10_state.md R33
    runs [(0x0100, 0x10#8), (0x0101, 0xFF#8)]
      (0x0100#16, 0xFE80#16, 0x00#8, 0x31#8) (0x0102#16, 0xFE80#16, 0x00#8, 0x31#8) true
      [(0xFEC1, 0x31#8)],
    -- V26: XCH A,[HL], R227
    runs [(0x0100, 0x16#8), (0x0101, 0x54#8), (0xFE40, 0xAA#8), (0xFEFE, 0x40#8), (0xFEFF, 0xFE#8), (0xFEF1, 0x55#8)]
      (0x0100#16, 0xFE80#16, 0x00#8, 0x00#8) (0x0102#16, 0xFE80#16, 0x00#8, 0x00#8) true
      [(0xFE40, 0x55#8), (0xFEF1, 0xAA#8)],
    -- V28: MOVW VP,#1234H, R232; 30_encoding.md R127
    runs [(0x0100, 0x61#8), (0x0101, 0x34#8), (0x0102, 0x12#8)]
      (0x0100#16, 0xFE80#16, 0x00#8, 0x00#8) (0x0103#16, 0xFE80#16, 0x00#8, 0x00#8) true
      [(0xFEF8, 0x34#8), (0xFEF9, 0x12#8)],
    -- V31: MOVW AX,0FE40H, R236; 20_memory.md R91
    runs [(0x0100, 0x1C#8), (0x0101, 0x40#8), (0xFE40, 0x34#8), (0xFE41, 0x12#8)]
      (0x0100#16, 0xFE80#16, 0x00#8, 0x00#8) (0x0102#16, 0xFE80#16, 0x00#8, 0x00#8) true
      [(0xFEF0, 0x34#8), (0xFEF1, 0x12#8)],
    -- V35: MOVW DE,!0FE40H, R241
    runs [(0x0100, 0x09#8), (0x0101, 0x85#8), (0x0102, 0x40#8), (0x0103, 0xFE#8), (0xFE40, 0x34#8), (0xFE41, 0x12#8)]
      (0x0100#16, 0xFE80#16, 0x00#8, 0x00#8) (0x0104#16, 0xFE80#16, 0x00#8, 0x00#8) true
      [(0xFEFC, 0x34#8), (0xFEFD, 0x12#8)],
    -- V36: MOVW !0FE40H,DE, R242
    runs [(0x0100, 0x09#8), (0x0101, 0x95#8), (0x0102, 0x40#8), (0x0103, 0xFE#8), (0xFEFC, 0x34#8), (0xFEFD, 0x12#8)]
      (0x0100#16, 0xFE80#16, 0x00#8, 0x00#8) (0x0104#16, 0xFE80#16, 0x00#8, 0x00#8) true
      [(0xFE40, 0x34#8), (0xFE41, 0x12#8)],
    -- V38: XCHW RP2,DE, R246
    runs [(0x0100, 0x25#8), (0x0101, 0x4D#8), (0xFEF4, 0x11#8), (0xFEF5, 0x11#8), (0xFEFC, 0x22#8), (0xFEFD, 0x22#8)]
      (0x0100#16, 0xFE80#16, 0x00#8, 0x00#8) (0x0102#16, 0xFE80#16, 0x00#8, 0x00#8) true
      [(0xFEF4, 0x22#8), (0xFEF5, 0x22#8), (0xFEFC, 0x11#8), (0xFEFD, 0x11#8)]].all id = true := by decide

theorem test_vectors_alu : [
    -- V39: ADD A,#01H, R800; 41_alu8.md R262 to R268
    runs [(0x0100, 0xA8#8), (0x0101, 0x01#8), (0xFEF1, 0x7F#8)]
      (0x0100#16, 0xFE80#16, 0x00#8, 0x00#8) (0x0102#16, 0xFE80#16, 0x94#8, 0x00#8) true
      [(0xFEF1, 0x80#8)],
    -- V46: SUB A,#01H, R818; 41_alu8.md R262 to R268
    runs [(0x0100, 0xAA#8), (0x0101, 0x01#8), (0xFEF1, 0x00#8)]
      (0x0100#16, 0xFE80#16, 0x00#8, 0x00#8) (0x0102#16, 0xFE80#16, 0x93#8, 0x00#8) true
      [(0xFEF1, 0xFF#8)],
    -- V50: SUBC A,#FFH, R827; 41_alu8.md R262 to R268
    runs [(0x0100, 0xAB#8), (0x0101, 0xFF#8), (0xFEF1, 0x00#8)]
      (0x0100#16, 0xFE80#16, 0x01#8, 0x00#8) (0x0102#16, 0xFE80#16, 0x53#8, 0x00#8) true
      [(0xFEF1, 0x00#8)],
    -- V56: AND A,#0FH, R836; R264, R268
    runs [(0x0100, 0xAC#8), (0x0101, 0x0F#8), (0xFEF1, 0x35#8)]
      (0x0100#16, 0xFE80#16, 0x11#8, 0x00#8) (0x0102#16, 0xFE80#16, 0x15#8, 0x00#8) true
      [(0xFEF1, 0x05#8)],
    -- V59: XOR R1,R1, R848
    runs [(0x0100, 0x8D#8), (0x0101, 0x11#8), (0xFEF1, 0xA5#8)]
      (0x0100#16, 0xFE80#16, 0x01#8, 0x00#8) (0x0102#16, 0xFE80#16, 0x45#8, 0x00#8) true
      [(0xFEF1, 0x00#8)],
    -- V66: ADD 0FE40H,0FE41H, R806
    runs [(0x0100, 0x78#8), (0x0101, 0x41#8), (0x0102, 0x40#8), (0xFE40, 0xFF#8), (0xFE41, 0x01#8)]
      (0x0100#16, 0xFE80#16, 0x00#8, 0x00#8) (0x0103#16, 0xFE80#16, 0x51#8, 0x00#8) true
      [(0xFE40, 0x00#8), (0xFE41, 0x01#8)],
    -- V70: SUB [DE],A, R826
    runs [(0x0100, 0x16#8), (0x0101, 0xCA#8), (0xFE40, 0x00#8), (0xFEFC, 0x40#8), (0xFEFD, 0xFE#8), (0xFEF1, 0x01#8)]
      (0x0100#16, 0xFE80#16, 0x00#8, 0x00#8) (0x0102#16, 0xFE80#16, 0x93#8, 0x00#8) true
      [(0xFE40, 0xFF#8), (0xFEF1, 0x01#8)],
    -- V72: ADD A,[DE+A], R807
    runs [(0x0100, 0x17#8), (0x0101, 0x08#8), (0xFE42, 0x10#8), (0xFEFC, 0x40#8), (0xFEFD, 0xFE#8), (0xFEF1, 0x02#8)]
      (0x0100#16, 0xFE80#16, 0x00#8, 0x00#8) (0x0102#16, 0xFE80#16, 0x00#8, 0x00#8) true
      [(0xFEF1, 0x12#8)],
    -- V74: ADDW AX,#0001H, R285; R281 to R283
    runs [(0x0100, 0x2D#8), (0x0101, 0x01#8), (0x0102, 0x00#8), (0xFEF0, 0xFF#8), (0xFEF1, 0x7F#8)]
      (0x0100#16, 0xFE80#16, 0x00#8, 0x00#8) (0x0103#16, 0xFE80#16, 0x84#8, 0x00#8) false
      [(0xFEF0, 0x00#8), (0xFEF1, 0x80#8)],
    -- V79: SUBW AX,#0001H, R292; R281 to R283
    runs [(0x0100, 0x2E#8), (0x0101, 0x01#8), (0x0102, 0x00#8), (0xFEF0, 0x00#8), (0xFEF1, 0x80#8)]
      (0x0100#16, 0xFE80#16, 0x00#8, 0x00#8) (0x0103#16, 0xFE80#16, 0x06#8, 0x00#8) false
      [(0xFEF0, 0xFF#8), (0xFEF1, 0x7F#8)],
    -- V84: ADDW HL,DE, R288
    runs [(0x0100, 0x88#8), (0x0101, 0xED#8), (0xFEFE, 0x00#8), (0xFEFF, 0x10#8), (0xFEFC, 0x34#8), (0xFEFD, 0x02#8)]
      (0x0100#16, 0xFE80#16, 0x00#8, 0x00#8) (0x0102#16, 0xFE80#16, 0x00#8, 0x00#8) false
      [(0xFEFE, 0x34#8), (0xFEFF, 0x12#8), (0xFEFC, 0x34#8), (0xFEFD, 0x02#8)],
    -- V85: SUBW RP0,RP1, R295
    runs [(0x0100, 0x8A#8), (0x0101, 0x0A#8), (0xFEF0, 0x01#8), (0xFEF1, 0x00#8), (0xFEF2, 0x02#8), (0xFEF3, 0x00#8)]
      (0x0100#16, 0xFE80#16, 0x00#8, 0x00#8) (0x0102#16, 0xFE80#16, 0x83#8, 0x00#8) false
      [(0xFEF0, 0xFF#8), (0xFEF1, 0xFF#8)]].all id = true := by decide

theorem test_vectors_muldiv : [
    -- V90: MULU R3, R321
    runs [(0x0100, 0x05#8), (0x0101, 0x0B#8), (0xFEF3, 0xFF#8), (0xFEF1, 0xFF#8)]
      (0x0100#16, 0xFE80#16, 0x00#8, 0x00#8) (0x0102#16, 0xFE80#16, 0x00#8, 0x00#8) true
      [(0xFEF3, 0xFF#8), (0xFEF0, 0x01#8), (0xFEF1, 0xFE#8)],
    -- V93: DIVUW R3, R322
    runs [(0x0100, 0x05#8), (0x0101, 0x1B#8), (0xFEF3, 0x0A#8), (0xFEF0, 0x03#8), (0xFEF1, 0x01#8)]
      (0x0100#16, 0xFE80#16, 0x00#8, 0x00#8) (0x0102#16, 0xFE80#16, 0x00#8, 0x00#8) true
      [(0xFEF3, 0x09#8), (0xFEF0, 0x19#8), (0xFEF1, 0x00#8)],
    -- V97: MULUW RP1, R323
    runs [(0x0100, 0x05#8), (0x0101, 0x2A#8), (0xFEF2, 0x00#8), (0xFEF3, 0x01#8), (0xFEF0, 0x34#8), (0xFEF1, 0x12#8)]
      (0x0100#16, 0xFE80#16, 0x00#8, 0x00#8) (0x0102#16, 0xFE80#16, 0x00#8, 0x00#8) true
      [(0xFEF2, 0x00#8), (0xFEF3, 0x34#8), (0xFEF0, 0x12#8), (0xFEF1, 0x00#8)],
    -- V98: DIVUX RP3, R324
    runs [(0x0100, 0x05#8), (0x0101, 0xEE#8), (0xFEFC, 0x00#8), (0xFEFD, 0x00#8), (0xFEF6, 0x03#8), (0xFEF7, 0x00#8), (0xFEF0, 0x01#8), (0xFEF1, 0x00#8)]
      (0x0100#16, 0xFE80#16, 0x00#8, 0x00#8) (0x0102#16, 0xFE80#16, 0x00#8, 0x00#8) true
      [(0xFEFC, 0x55#8), (0xFEFD, 0x55#8), (0xFEF6, 0x01#8), (0xFEF7, 0x00#8), (0xFEF0, 0x00#8), (0xFEF1, 0x00#8)],
    -- V101: INC R1, R325
    runs [(0x0100, 0xC1#8), (0xFEF1, 0x7F#8)]
      (0x0100#16, 0xFE80#16, 0x00#8, 0x00#8) (0x0101#16, 0xFE80#16, 0x94#8, 0x00#8) true
      [(0xFEF1, 0x80#8)],
    -- V106: DEC R2, R327
    runs [(0x0100, 0xCA#8), (0xFEF2, 0x01#8)]
      (0x0100#16, 0xFE80#16, 0x01#8, 0x00#8) (0x0101#16, 0xFE80#16, 0x43#8, 0x00#8) true
      [(0xFEF2, 0x00#8)],
    -- V109: INCW HL, R329
    runs [(0x0100, 0x47#8), (0xFEFE, 0xFF#8), (0xFEFF, 0xFF#8)]
      (0x0100#16, 0xFE80#16, 0x00#8, 0x00#8) (0x0101#16, 0xFE80#16, 0x00#8, 0x00#8) true
      [(0xFEFE, 0x00#8), (0xFEFF, 0x00#8)],
    -- V111: INCW 0FE40H, R330
    runs [(0x0100, 0x07#8), (0x0101, 0xE8#8), (0x0102, 0x40#8), (0xFE40, 0xFF#8), (0xFE41, 0x00#8)]
      (0x0100#16, 0xFE80#16, 0x00#8, 0x00#8) (0x0103#16, 0xFE80#16, 0x00#8, 0x00#8) true
      [(0xFE40, 0x00#8), (0xFE41, 0x01#8)]].all id = true := by decide

theorem test_vectors_shift : [
    -- V114: ROR R1,7, R341
    runs [(0x0100, 0x30#8), (0x0101, 0x79#8), (0xFEF1, 0x81#8)]
      (0x0100#16, 0xFE80#16, 0x40#8, 0x00#8) (0x0102#16, 0xFE80#16, 0x44#8, 0x00#8) true
      [(0xFEF1, 0x03#8)],
    -- V117: RORC R1,2, R343
    runs [(0x0100, 0x30#8), (0x0101, 0x11#8), (0xFEF1, 0x03#8)]
      (0x0100#16, 0xFE80#16, 0x00#8, 0x00#8) (0x0102#16, 0xFE80#16, 0x01#8, 0x00#8) true
      [(0xFEF1, 0x80#8)],
    -- V119: ROLC R0,7, R344
    runs [(0x0100, 0x31#8), (0x0101, 0x38#8), (0xFEF0, 0x01#8)]
      (0x0100#16, 0xFE80#16, 0x01#8, 0x00#8) (0x0102#16, 0xFE80#16, 0x04#8, 0x00#8) true
      [(0xFEF0, 0xC0#8)],
    -- V120: SHR R1,2, R345
    runs [(0x0100, 0x30#8), (0x0101, 0x91#8), (0xFEF1, 0x86#8)]
      (0x0100#16, 0xFE80#16, 0x10#8, 0x00#8) (0x0102#16, 0xFE80#16, 0x05#8, 0x00#8) true
      [(0xFEF1, 0x21#8)],
    -- V127: SHRW DE,7, R347
    runs [(0x0100, 0x30#8), (0x0101, 0xFD#8), (0xFEFC, 0x80#8), (0xFEFD, 0xFF#8)]
      (0x0100#16, 0xFE80#16, 0x00#8, 0x00#8) (0x0102#16, 0xFE80#16, 0x00#8, 0x00#8) true
      [(0xFEFC, 0xFF#8), (0xFEFD, 0x01#8)],
    -- V128: SHLW HL,4, R348
    runs [(0x0100, 0x31#8), (0x0101, 0xE7#8), (0xFEFE, 0x34#8), (0xFEFF, 0x12#8)]
      (0x0100#16, 0xFE80#16, 0x00#8, 0x00#8) (0x0102#16, 0xFE80#16, 0x05#8, 0x00#8) true
      [(0xFEFE, 0x40#8), (0xFEFF, 0x23#8)],
    -- V132: ROR4 [HL], R349
    runs [(0x0100, 0x05#8), (0x0101, 0x8F#8), (0xFE40, 0x34#8), (0xFEFE, 0x40#8), (0xFEFF, 0xFE#8), (0xFEF1, 0x12#8)]
      (0x0100#16, 0xFE80#16, 0x00#8, 0x00#8) (0x0102#16, 0xFE80#16, 0x00#8, 0x00#8) true
      [(0xFE40, 0x23#8), (0xFEF1, 0x14#8)],
    -- V133: ROL4 [HL], R350
    runs [(0x0100, 0x05#8), (0x0101, 0x9F#8), (0xFE40, 0x34#8), (0xFEFE, 0x40#8), (0xFEFF, 0xFE#8), (0xFEF1, 0x12#8)]
      (0x0100#16, 0xFE80#16, 0x00#8, 0x00#8) (0x0102#16, 0xFE80#16, 0x00#8, 0x00#8) true
      [(0xFE40, 0x42#8), (0xFEF1, 0x13#8)]].all id = true := by decide

theorem test_vectors_bits : [
    -- V145: MOV1 0FE40H.0,CY, R906
    runs [(0x0100, 0x08#8), (0x0101, 0x10#8), (0x0102, 0x40#8), (0xFE40, 0xF0#8)]
      (0x0100#16, 0xFE80#16, 0x01#8, 0x00#8) (0x0103#16, 0xFE80#16, 0x01#8, 0x00#8) true
      [(0xFE40, 0xF1#8)],
    -- V147: MOV1 PSWL.6,CY, R911
    runs [(0x0100, 0x02#8), (0x0101, 0x16#8)]
      (0x0100#16, 0xFE80#16, 0x01#8, 0x00#8) (0x0102#16, 0xFE80#16, 0x41#8, 0x00#8) true
      [],
    -- V150: AND1 CY,/0FE40H.1, R913
    runs [(0x0100, 0x08#8), (0x0101, 0x31#8), (0x0102, 0x40#8), (0xFE40, 0x02#8)]
      (0x0100#16, 0xFE80#16, 0x01#8, 0x00#8) (0x0103#16, 0xFE80#16, 0x00#8, 0x00#8) true
      [],
    -- V157: CLR1 0FE40H.7, R949
    runs [(0x0100, 0xA7#8), (0x0101, 0x40#8), (0xFE40, 0xFF#8)]
      (0x0100#16, 0xFE80#16, 0x00#8, 0x00#8) (0x0102#16, 0xFE80#16, 0x00#8, 0x00#8) true
      [(0xFE40, 0x7F#8)],
    -- V163: NOT1 0FE40H.0, R956
    runs [(0x0100, 0x08#8), (0x0101, 0x70#8), (0x0102, 0x40#8), (0xFE40, 0x55#8)]
      (0x0100#16, 0xFE80#16, 0x00#8, 0x00#8) (0x0103#16, 0xFE80#16, 0x00#8, 0x00#8) true
      [(0xFE40, 0x54#8)],
    -- V148: MOV1 PSWH.0,CY, R910
    runs [(0x0100, 0x02#8), (0x0101, 0x18#8)]
      (0x0100#16, 0xFE80#16, 0x01#8, 0x00#8) (0x0102#16, 0xFE80#16, 0x01#8, 0x01#8) true
      []].all id = true := by decide

theorem test_vectors_call_stack : [
    -- V170: CALL !1000H, R401, R400
    runs [(0x0100, 0x28#8), (0x0101, 0x00#8), (0x0102, 0x10#8)]
      (0x0100#16, 0xFE80#16, 0x00#8, 0x00#8) (0x1000#16, 0xFE7E#16, 0x00#8, 0x00#8) true
      [(0xFE7E, 0x03#8), (0xFE7F, 0x01#8)],
    -- V171: CALLF !0A34H, R402
    runs [(0x0100, 0x92#8), (0x0101, 0x34#8)]
      (0x0100#16, 0xFE80#16, 0x00#8, 0x00#8) (0x0A34#16, 0xFE7E#16, 0x00#8, 0x00#8) true
      [(0xFE7E, 0x02#8), (0xFE7F, 0x01#8)],
    -- V175: CALLT [0040H], R403; 10_state.md R38
    runs [(0x0100, 0xE0#8), (0x8040, 0x00#8), (0x8041, 0x90#8), (0xFF4E, 0x02#8)]
      (0x0100#16, 0xFE80#16, 0x00#8, 0x00#8) (0x9000#16, 0xFE7E#16, 0x00#8, 0x00#8) true
      [],
    -- V177: CALL [DE], R405
    runs [(0x0100, 0x05#8), (0x0101, 0x7D#8), (0xFE40, 0x34#8), (0xFE41, 0x12#8), (0xFEFC, 0x40#8), (0xFEFD, 0xFE#8)]
      (0x0100#16, 0xFE80#16, 0x00#8, 0x00#8) (0x1234#16, 0xFE7E#16, 0x00#8, 0x00#8) true
      [(0xFE7E, 0x02#8)],
    -- V178: BRK, R406
    runs [(0x0200, 0x5E#8), (0x003E, 0x00#8), (0x003F, 0x03#8)]
      (0x0200#16, 0xFE80#16, 0x41#8, 0x00#8) (0x0300#16, 0xFE7C#16, 0x41#8, 0x00#8) true
      [(0xFE7F, 0x00#8), (0xFE7E, 0x41#8), (0xFE7D, 0x02#8), (0xFE7C, 0x01#8)],
    -- V180: RET, R407
    runs [(0x0100, 0x56#8), (0xFE7E, 0x03#8), (0xFE7F, 0x01#8)]
      (0x0100#16, 0xFE7E#16, 0x00#8, 0x00#8) (0x0103#16, 0xFE80#16, 0x00#8, 0x00#8) true
      [],
    -- V181: RETI, R408
    runs [(0x0100, 0x57#8), (0xFE7C, 0x01#8), (0xFE7D, 0x02#8), (0xFE7E, 0x41#8), (0xFE7F, 0x21#8)]
      (0x0100#16, 0xFE7C#16, 0x00#8, 0x00#8) (0x0201#16, 0xFE80#16, 0x41#8, 0x21#8) true
      [],
    -- V182: PUSH RP7,RP0, R409, R415
    runs [(0x0100, 0x35#8), (0x0101, 0x81#8), (0xFEFE, 0x22#8), (0xFEFF, 0x11#8), (0xFEF0, 0x44#8), (0xFEF1, 0x33#8)]
      (0x0100#16, 0xFE80#16, 0x00#8, 0x00#8) (0x0102#16, 0xFE7C#16, 0x00#8, 0x00#8) true
      [(0xFE7F, 0x11#8), (0xFE7E, 0x22#8), (0xFE7D, 0x33#8), (0xFE7C, 0x44#8)],
    -- V184: POP RP1,RP2, R412, R415
    runs [(0x0100, 0x34#8), (0x0101, 0x06#8), (0xFE7C, 0x11#8), (0xFE7D, 0x22#8), (0xFE7E, 0x33#8), (0xFE7F, 0x44#8)]
      (0x0100#16, 0xFE7C#16, 0x00#8, 0x00#8) (0x0102#16, 0xFE80#16, 0x00#8, 0x00#8) true
      [(0xFEF2, 0x11#8), (0xFEF3, 0x22#8), (0xFEF4, 0x33#8), (0xFEF5, 0x44#8)],
    -- V190: PUSHU PSW,RP0, R411, R415
    runs [(0x0100, 0x37#8), (0x0101, 0x21#8), (0xFEFA, 0x60#8), (0xFEFB, 0xFE#8), (0xFEF0, 0x34#8), (0xFEF1, 0x12#8)]
      (0x0100#16, 0xFE80#16, 0x81#8, 0x00#8) (0x0102#16, 0xFE80#16, 0x81#8, 0x00#8) true
      [(0xFE5F, 0x00#8), (0xFE5E, 0x81#8), (0xFE5D, 0x12#8), (0xFE5C, 0x34#8), (0xFEFA, 0x5C#8), (0xFEFB, 0xFE#8)],
    -- V191: POPU PSW,RP0, R414, R415
    runs [(0x0100, 0x36#8), (0x0101, 0x21#8), (0xFE5C, 0x34#8), (0xFE5D, 0x12#8), (0xFE5E, 0x81#8), (0xFE5F, 0x00#8), (0xFEFA, 0x5C#8), (0xFEFB, 0xFE#8)]
      (0x0100#16, 0xFE80#16, 0x00#8, 0x00#8) (0x0102#16, 0xFE80#16, 0x81#8, 0x00#8) true
      [(0xFEFA, 0x60#8), (0xFEFB, 0xFE#8), (0xFEF0, 0x34#8), (0xFEF1, 0x12#8)],
    -- V192: MOVW SP,#0FEE0H, R416
    runs [(0x0100, 0x0B#8), (0x0101, 0xFC#8), (0x0102, 0xE0#8), (0x0103, 0xFE#8)]
      (0x0100#16, 0xFE80#16, 0x00#8, 0x00#8) (0x0104#16, 0xFEE0#16, 0x00#8, 0x00#8) true
      []].all id = true := by decide

theorem test_vectors_branch : [
    -- V199: BR $0082H, R449, R440
    runs [(0x0100, 0x14#8), (0x0101, 0x80#8)]
      (0x0100#16, 0xFE80#16, 0x00#8, 0x00#8) (0x0082#16, 0xFE80#16, 0x00#8, 0x00#8) true
      [],
    -- V201: BR $0FF92H, R449, R440
    runs [(0x0010, 0x14#8), (0x0011, 0x80#8)]
      (0x0010#16, 0xFE80#16, 0x00#8, 0x00#8) (0xFF92#16, 0xFE80#16, 0x00#8, 0x00#8) true
      [],
    -- V204: BR [DE], R448
    runs [(0x0100, 0x05#8), (0x0101, 0x6D#8), (0xFE40, 0x78#8), (0xFE41, 0x56#8), (0xFEFC, 0x40#8), (0xFEFD, 0xFE#8)]
      (0x0100#16, 0xFE80#16, 0x00#8, 0x00#8) (0x5678#16, 0xFE80#16, 0x00#8, 0x00#8) true
      [],
    -- V205: BZ $0110H, R452
    runs [(0x0100, 0x81#8), (0x0101, 0x0E#8)]
      (0x0100#16, 0xFE80#16, 0x40#8, 0x00#8) (0x0110#16, 0xFE80#16, 0x40#8, 0x00#8) true
      [],
    -- V206: BZ $0110H, R452
    runs [(0x0100, 0x81#8), (0x0101, 0x0E#8)]
      (0x0100#16, 0xFE80#16, 0x00#8, 0x00#8) (0x0102#16, 0xFE80#16, 0x00#8, 0x00#8) true
      [],
    -- V221: BT 0FE40H.3,$0110H, R464
    runs [(0x0100, 0x73#8), (0x0101, 0x40#8), (0x0102, 0x0D#8), (0xFE40, 0x08#8)]
      (0x0100#16, 0xFE80#16, 0x00#8, 0x00#8) (0x0110#16, 0xFE80#16, 0x00#8, 0x00#8) true
      [(0xFE40, 0x08#8)],
    -- V226: BTCLR 0FE40H.0,$0110H, R476, R444
    runs [(0x0100, 0x08#8), (0x0101, 0xD0#8), (0x0102, 0x40#8), (0x0103, 0x0C#8), (0xFE40, 0xFF#8)]
      (0x0100#16, 0xFE80#16, 0x00#8, 0x00#8) (0x0110#16, 0xFE80#16, 0x00#8, 0x00#8) true
      [(0xFE40, 0xFE#8)],
    -- V227: BTCLR 0FE40H.0,$0110H, R476, R444
    runs [(0x0100, 0x08#8), (0x0101, 0xD0#8), (0x0102, 0x40#8), (0x0103, 0x0C#8), (0xFE40, 0xFE#8)]
      (0x0100#16, 0xFE80#16, 0x00#8, 0x00#8) (0x0104#16, 0xFE80#16, 0x00#8, 0x00#8) true
      [(0xFE40, 0xFE#8)],
    -- V233: DBNZ B,$0110H, R488
    runs [(0x0100, 0x33#8), (0x0101, 0x0E#8), (0xFEF3, 0x00#8)]
      (0x0100#16, 0xFE80#16, 0x00#8, 0x00#8) (0x0110#16, 0xFE80#16, 0x00#8, 0x00#8) true
      [(0xFEF3, 0xFF#8)]].all id = true := by decide

theorem test_vectors_context_string : [
    -- V235: BRKCS RB2, R490
    runs [(0x0100, 0x05#8), (0x0101, 0xDA#8), (0xFED4, 0x00#8), (0xFED5, 0x04#8)]
      (0x0100#16, 0xFE80#16, 0x41#8, 0x10#8) (0x0400#16, 0xFE80#16, 0x41#8, 0x20#8) true
      [(0xFED4, 0x02#8), (0xFED5, 0x01#8), (0xFED6, 0x41#8), (0xFED7, 0x10#8)],
    -- V237: BRKCS RB3, R490
    runs [(0x0100, 0x05#8), (0x0101, 0xDB#8), (0xFEC4, 0x00#8), (0xFEC5, 0x05#8)]
      (0x0100#16, 0xFE80#16, 0x20#8, 0x01#8) (0x0500#16, 0xFE80#16, 0x00#8, 0x30#8) true
      [(0xFEC4, 0x02#8), (0xFEC5, 0x01#8), (0xFEC6, 0x20#8), (0xFEC7, 0x01#8)],
    -- V241: MOVM [DE−],A, R494
    runs [(0x0100, 0x15#8), (0x0101, 0x10#8), (0xFEFC, 0x43#8), (0xFEFD, 0xFE#8), (0xFEF2, 0x01#8), (0xFEF1, 0x77#8)]
      (0x0100#16, 0xFE80#16, 0x00#8, 0x00#8) (0x0102#16, 0xFE80#16, 0x00#8, 0x00#8) true
      [(0xFE43, 0x77#8), (0xFEFC, 0x42#8), (0xFEFD, 0xFE#8), (0xFEF2, 0x00#8)],
    -- V254: MOV STBC,#01H, R517
    runs [(0x0100, 0x09#8), (0x0101, 0x44#8), (0x0102, 0xFE#8), (0x0103, 0x01#8)]
      (0x0100#16, 0xFE80#16, 0x00#8, 0x00#8) (0x0104#16, 0xFE80#16, 0x00#8, 0x00#8) true
      [],
    -- V255: MOV STBC,#01H (bad check), R517
    runs [(0x0100, 0x09#8), (0x0101, 0x44#8), (0x0102, 0x01#8), (0x0103, 0x01#8)]
      (0x0100#16, 0xFE80#16, 0x00#8, 0x00#8) (0x0104#16, 0xFE80#16, 0x00#8, 0x00#8) true
      [],
    -- V257: SWRS, R519
    runs [(0x0100, 0x43#8)]
      (0x0100#16, 0xFE80#16, 0x00#8, 0x00#8) (0x0101#16, 0xFE80#16, 0x20#8, 0x00#8) true
      [],
    -- V259: SEL RB3, R520
    runs [(0x0100, 0x05#8), (0x0101, 0xAB#8)]
      (0x0100#16, 0xFE80#16, 0x20#8, 0x00#8) (0x0102#16, 0xFE80#16, 0x00#8, 0x30#8) true
      []].all id = true := by decide

/-! ## Witnesses: for every obligation with hypotheses a state and operands that meet them, for its clauses at their boundaries -/

/-- The start state of the vectors with nothing placed. -/
def base : State := start [] (0x0100#16, 0xFE80#16, 0x00#8, 0x00#8)

/-- A board whose external memory is a device. -/
def onDevice : State := { base with board := { base.board with regions := [{ first := 0, last := 0xFDFF, kind := .device }] } }

/-- A board whose external memory is read-only. -/
def onEprom : State := { base with board := { base.board with regions := [{ first := 0, last := 0xFDFF, kind := .readOnly }] } }

/-- The member with ROM, and external memory from 4000H to 40FFH that MM = 30H enables up to 407FH. -/
def onRom : State :=
  { base with board := { variant := .uPD78P312A, eaLow := false, regions := [{ first := 0x4000, last := 0x40FF, kind := .memory }],
                         enabled := [{ mm := 0x30#8, first := 0x4000, last := 0x407F }] } }

/-- The result of an access is a value. -/
def okay {α : Type} (r : Except Stop α) : Bool :=
  match r with
  | .ok _ => true
  | .error _ => false

/-- A value of an access that has one. -/
theorem okay_value {α : Type} {r : Except Stop α} (h : okay r = true) : ∃ v, r = .ok v := by
  cases r with
  | ok v => exact ⟨v, rfl⟩
  | error e => cases h

/-- No register lies below FE80H. -/
theorem below_registers {a : Nat} (h : a < 0xFE80) (b : BitVec 3) (r : RegNo) : a ≠ regAddr b r := by
  have := (regAddr_range b r).1
  omega

theorem base_wf : base.mem.wf = true := by decide

theorem witness_DecodeUndoesEncode : (Instr.movASfr 0xFB#8).wellFormed = true := by decide

theorem witness_EncodeUndoesDecode : decode [0x00#8, 0x5F#8] = .ok (.nop, [0x5F#8]) := rfl

theorem witness_UnassignedBytesAreRejected :
    ([(0x01, 0x20), (0x02, 0xE0), (0x03, 0xFF), (0x05, 0xC7), (0x05, 0xCA), (0x06, 0x50), (0x07, 0xFE), (0x08, 0x80), (0x08, 0xB7),
      (0x09, 0x88), (0x0A, 0x40), (0x15, 0x02), (0x15, 0x40), (0x16, 0x84), (0x17, 0x60), (0x24, 0x18), (0x89, 0x08)].all fun c =>
        !secondByteAssigned (BitVec.ofNat 8 c.1) (BitVec.ofNat 8 c.2)) = true ∧
    ([(0x01, 0x21), (0x02, 0xDF), (0x05, 0xC9), (0x06, 0x4F), (0x07, 0xFD), (0x08, 0xBF), (0x09, 0x97), (0x0A, 0x3F), (0x15, 0x37),
      (0x16, 0x74), (0x17, 0xDF), (0x24, 0xEF), (0x89, 0xF7), (0x00, 0xFF)].all fun c =>
        secondByteAssigned (BitVec.ofNat 8 c.1) (BitVec.ofNat 8 c.2)) = true := by decide

/-- At 0100H `MOV A,!addr16` of TXB, which may not be read. -/
def atFault : State :=
  start [(0x0100, 0x09#8), (0x0101, 0xF0#8), (0x0102, 0x57#8), (0x0103, 0xFF#8)] (0x0100#16, 0xFE80#16, 0x00#8, 0x00#8)

/-- At 0100H `MOVW AX,saddrp` of a port, which is no word register. -/
def atRefusal : State := start [(0x0100, 0x1C#8), (0x0101, 0x00#8)] (0x0100#16, 0xFE80#16, 0x00#8, 0x00#8)

theorem witness_StepRunsTheInstructionAtPc_next :
    Instr.nop.wellFormed = true ∧ base.run = .running ∧ boundary base = none ∧
      (∀ j, j < Instr.nop.length → fetchByte (base.pc + BitVec.ofNat 16 j) base = .ok ((encode .nop).getD j 0#8)) ∧
      ∃ t, exec .nop base = .next t := by
  refine ⟨rfl, rfl, by decide, fun j hj => ?_, _, rfl⟩
  have h1 : j < 1 := hj
  interval_cases j
  decide

theorem witness_StepRunsTheInstructionAtPc_fault :
    (Instr.movAAddr16 0xFF57#16).wellFormed = true ∧ atFault.run = .running ∧ boundary atFault = none ∧
      (∀ j, j < (Instr.movAAddr16 0xFF57#16).length → fetchByte (atFault.pc + BitVec.ofNat 16 j) atFault =
        .ok ((encode (.movAAddr16 0xFF57#16)).getD j 0#8)) ∧
      exec (.movAAddr16 0xFF57#16) atFault = .fault (.writeOnlySfr 0xFF57) := by
  refine ⟨rfl, rfl, by decide, fun j hj => ?_, rfl⟩
  have h1 : j < 4 := hj
  interval_cases j <;> decide

theorem witness_StepRunsTheInstructionAtPc_refusal :
    (Instr.movwAxSaddrp 0x00#8).wellFormed = true ∧ atRefusal.run = .running ∧ boundary atRefusal = none ∧
      (∀ j, j < (Instr.movwAxSaddrp 0x00#8).length → fetchByte (atRefusal.pc + BitVec.ofNat 16 j) atRefusal =
        .ok ((encode (.movwAxSaddrp 0x00#8)).getD j 0#8)) ∧
      exec (.movwAxSaddrp 0x00#8) atRefusal = .refused (.notWordSfr 0x00#8) := by
  refine ⟨rfl, rfl, by decide, fun j hj => ?_, rfl⟩
  have h1 : j < 2 := hj
  interval_cases j <;> decide

theorem witness_FetchReadsMemoryOutsideTheQueue :
    0xFF00 ≤ (0xFF00#16).toNat ∧ readsAsHeld base (0xFEFF#16).toNat = true ∧ readsAsHeld onRom (0x1FFF#16).toNat = true ∧
      readsAsHeld onEprom (0x0000#16).toNat = true ∧ ∀ c ∈ base.prefetch, c.1 ≠ (0xFEFF#16).toNat := by decide

theorem witness_StepKeepsTheInvariant : base.inv = true ∧ ∃ t, step base = .next t := ⟨by decide, _, rfl⟩

theorem witness_UnassignedBytesAreRejected_cut : decode [0x00#8, 0x5F#8] = .ok (.nop, [0x5F#8]) ∧ 0 < Instr.nop.length ∧
    decode [0x01#8, 0x0D#8, 0x08#8, 0x34#8, 0x12#8] = .ok (.addwSfrpWord 0x08#8 0x1234#16, []) ∧
    4 < (Instr.addwSfrpWord 0x08#8 0x1234#16).length := by decide

theorem witness_EnvironmentKeepsTheInvariant : base.inv = true ∧ (∃ t, resetPin base = .ok t) ∧
    (base.run ≠ .stopped ∧ requested base .exif0 = false ∧ requested (raiseRequest .tbf base) .tbf = true ∧ Source.crf00 ≠ .tbf) ∧
    ({ base with wdtRunning := true }.wdtRunning = true ∧ { base with wdtRunning := true }.run ≠ .stopped ∧
      base.wdtRunning = false ∧ { base with run := .stopped }.run = .stopped) := ⟨by decide, ⟨_, rfl⟩, by decide, by decide⟩

theorem witness_ByteReadByAddressClass :
    (base.place 0xFDFF = .external .memory ∧ base.place 0xFE00 = .ram ∧ base.place 0xFEFF = .ram ∧
      onDevice.place 0xFDFF = .external .device ∧ onEprom.place 0 = .external .readOnly ∧ onRom.place 0x1FFF = .rom ∧
      onRom.place 0x2000 = .unmapped ∧ onRom.place 0x407F = .external .memory ∧ onRom.place 0x4080 = .notEnabled) ∧
    (readByte 0 0xFFFC#16 base = .ok 0x80#8 ∧ readByte 0 0xFFFD#16 base = .ok 0xFE#8 ∧
      readByte 0 0xFFFE#16 base = .ok 0x00#8 ∧ readByte 0 0xFFFF#16 base = .ok 0x00#8) ∧
    (readByte 0 0xFF00#16 base = .ok (Config.deviceByte 0 0xFF00 0) ∧ readByte 0 0xFFB0#16 base = .ok (Config.deviceByte 0 0xFFB0 0) ∧
      readByte 0 0xFFBF#16 base = .ok (Config.deviceByte 0 0xFFBF 0)) ∧
    (readByte 0 0xFFE2#16 base = .ok 0x47#8 ∧ readByte 0 0xFFE1#16 base = .ok 0x00#8 ∧ readByte 0 0xFF4A#16 base = .ok 0x00#8) ∧
    (readByte 0 0xFF57#16 base = .error (.fault (.writeOnlySfr 0xFF57)) ∧
      readByte 0 0xFF06#16 base = .error (.fault (.sfrHole 0xFF06)) ∧
      readByte 0 0xFFFB#16 base = .error (.fault (.sfrHole 0xFFFB))) :=
  ⟨by decide, by decide, ⟨rfl, rfl, rfl⟩, by decide, by decide⟩

theorem witness_ByteReadByAddressClass_changed :
    readByte 0 0xFFC8#16 (raiseRequest .exif0 base) = .ok (Config.deviceByte 0 0xFFC8 0) := rfl

theorem witness_ByteWriteByAddressClass :
    base.mem.wf = true ∧
    (okay (writeByte 0xFDFF#16 0x5A#8 base) && okay (writeByte 0xFEFF#16 0x5A#8 base) && okay (writeByte 0xFF00#16 0x5A#8 base) &&
      okay (writeByte 0xFF02#16 0x5A#8 base) && okay (writeByte 0xFF23#16 0x5A#8 base) && okay (writeByte 0xFF44#16 0x5A#8 base) &&
      okay (writeByte 0xFFE2#16 0x47#8 base) && okay (writeByte 0xFFE1#16 0x5A#8 base) && okay (writeByte 0xFFB0#16 0x5A#8 base) && okay (writeByte 0xFFBF#16 0x5A#8 base) &&
      okay (writeByte 0xFFFC#16 0x5A#8 base) && okay (writeByte 0xFFFD#16 0x5A#8 base) && okay (writeByte 0xFFFE#16 0x5A#8 base) &&
      okay (writeByte 0xFFFF#16 0x5A#8 base)) = true ∧
    writeByte 0xFF4A#16 0x5A#8 base = .error (.fault (.readOnlySfr 0xFF4A)) ∧
    writeByte 0xFFFB#16 0x5A#8 base = .error (.fault (.sfrHole 0xFFFB)) ∧
    writeByte 0x1FFF#16 0x5A#8 onRom = .error (.fault (.romStore 0x1FFF)) ∧
    writeByte 0x2000#16 0x5A#8 onRom = .error (.fault (.unmapped 0x2000)) ∧
    writeByte 0x4080#16 0x5A#8 onRom = .error (.fault (.notEnabled 0x4080)) ∧
    writeByte 0x0000#16 0x5A#8 onEprom = .ok onEprom :=
  ⟨base_wf, rfl, rfl, rfl, rfl, rfl, rfl, rfl⟩

theorem witness_ByteWriteByAddressClass_control : 0x00#8 ≠ 0x47#8 ∧ okay (writeByte 0xFFC0#16 0x00#8 base) = true ∧
    okay (writeByte 0xFFE2#16 0xFF#8 base) = true := ⟨by decide, rfl, rfl⟩

theorem witness_RegistersArePlacesInRam : base.mem.wf = true := base_wf

theorem witness_NamesAndShortAddresses :
    base.psw.rss = false ∧ { base.psw with rss := true }.rss = true ∧ saddr 0x1F#8 = 0xFF1F#16 ∧ saddr 0x20#8 = 0xFE20#16 ∧
      sfrAddr 0xFB#8 = .ok 0xFFFB#16 ∧ sfrAddr 0xFC#8 = .error (.refusal (.spPswOperand 0xFC#8)) ∧
      saddrpAddr 0x1F#8 = .error (.refusal (.oddWordOffset 0x1F#8)) ∧ saddrpAddr 0x1E#8 = .ok 0xFF1E#16 ∧
      saddrpAddr 0x20#8 = .ok 0xFE20#16 ∧ saddrpAddr 0x06#8 = .error (.refusal (.notWordSfr 0x06#8)) ∧
      sfrpAddr 0x8E#8 = .ok 0xFF8E#16 ∧ sfrpAddr 0x90#8 = .error (.refusal (.notWordSfr 0x90#8)) := by decide

theorem witness_OperandStopsStopTheInstruction :
    (ByteMove base.psw (.movAAddr16 0xFF57#16) (.reg 1#4) (.mem 0xFF57#16) ∧
      (ByteOperand.mem 0xFF57#16).read 0 base.psw base = .error (.fault (.writeOnlySfr 0xFF57))) ∧
    (WordArith base.psw (.addwAxSaddrp 0x41#8) .addw (.pair 0#3) (.saddrp 0x41#8) ∧
      (WordOperand.saddrp 0x41#8).read 0 base.psw base = .error (.refusal (.oddWordOffset 0x41#8))) ∧
    (ByteMove base.psw (.movSfrByte 0x4A#8 0x5A#8) (.sfr 0x4A#8) (.imm 0x5A#8) ∧
      (ByteOperand.imm 0x5A#8).read 0 base.psw base = .ok 0x5A#8 ∧
      (ByteOperand.sfr 0x4A#8).write 0x5A#8 base.psw base = .error (.fault (.readOnlySfr 0xFF4A))) ∧
    (WordMove base.psw (.movwSaddrpWord 0x00#8 0x1234#16) (.saddrp 0x00#8) (.imm 0x1234#16) ∧
      (WordOperand.imm 0x1234#16).read 0 base.psw base = .ok 0x1234#16 ∧
      (WordOperand.saddrp 0x00#8).write 0x1234#16 base.psw base = .error (.refusal (.notWordSfr 0x00#8))) :=
  ⟨⟨.movAAddr16 _, rfl⟩, ⟨.addwAxSaddrp _, rfl⟩, ⟨.movSfrByte _ _, rfl, rfl⟩, ⟨.movwSaddrpWord _ _, rfl, rfl⟩⟩

theorem witness_OperandStopsStopTheInstruction_destination :
    (ByteArith base.psw (.addSfrByte 0x06#8 0x5A#8) .add (.sfr 0x06#8) (.imm 0x5A#8) ∧
      (ByteOperand.imm 0x5A#8).read 0 base.psw base = .ok 0x5A#8 ∧
      (ByteOperand.sfr 0x06#8).read 1 base.psw base = .error (.fault (.sfrHole 0xFF06))) ∧
    (ByteArith base.psw (.orSfrByte 0x4A#8 0x5A#8) .or (.sfr 0x4A#8) (.imm 0x5A#8) ∧
      (ByteOperand.sfr 0x4A#8).read 1 base.psw base = .ok 0x00#8 ∧
      (ByteOperand.sfr 0x4A#8).write (aluValue .or base.psw.cy 0x00#8 0x5A#8) base.psw base = .error (.fault (.readOnlySfr 0xFF4A))) ∧
    (ByteExchange base.psw (.xchASfr 0x4A#8) (.reg 1#4) (.sfr 0x4A#8) ∧
      (ByteOperand.sfr 0x4A#8).read 0 base.psw base = .ok 0x00#8 ∧ (ByteOperand.reg 1#4).read 1 base.psw base = .ok 0x00#8 ∧
      (ByteOperand.sfr 0x4A#8).write 0x00#8 base.psw base = .error (.fault (.readOnlySfr 0xFF4A))) ∧
    (ByteExchange base.psw (.xchSaddrSaddr 0x06#8 0x20#8) (.saddr 0x06#8) (.saddr 0x20#8) ∧
      (ByteOperand.saddr 0x20#8).read 0 base.psw base = .ok 0x00#8 ∧
      (ByteOperand.saddr 0x06#8).read 1 base.psw base = .error (.fault (.sfrHole 0xFF06))) ∧
    (WordArith base.psw (.addwSfrpWord 0x00#8 0x1234#16) .addw (.sfrp 0x00#8) (.imm 0x1234#16) ∧
      (WordOperand.sfrp 0x00#8).read 1 base.psw base = .error (.refusal (.notWordSfr 0x00#8))) ∧
    (WordExchange base.psw (.xchwSaddrpSaddrp 0x41#8 0x40#8) (.saddrp 0x41#8) (.saddrp 0x40#8) ∧
      (WordOperand.saddrp 0x40#8).read 0 base.psw base = .ok 0x0000#16 ∧
      (WordOperand.saddrp 0x41#8).read 1 base.psw base = .error (.refusal (.oddWordOffset 0x41#8))) :=
  ⟨⟨.addSfrByte _ _, by decide⟩, ⟨.orSfrByte _ _, by decide⟩, ⟨.xchASfr _, by decide⟩,
    ⟨.xchSaddrSaddr _ _, by decide⟩, ⟨.addwSfrpWord _ _, by decide⟩, .xchwSaddrpSaddrp _ _, by decide⟩

theorem witness_MovesCopyOneByte : ∃ u, ByteMove base.psw (.movSaddrByte 0x20#8 0x5A#8) (.saddr 0x20#8) (.imm 0x5A#8) ∧
    (ByteOperand.imm 0x5A#8).read 0 base.psw base = .ok 0x5A#8 ∧
    (ByteOperand.saddr 0x20#8).write 0x5A#8 base.psw base = .ok u := ⟨_, .movSaddrByte _ _, rfl, rfl⟩

theorem witness_ExchangesSwapTwoBytes : ∃ u w, ByteExchange base.psw (.xchAR1 3#3) (.reg 1#4) (.reg 3#4) ∧
    (ByteOperand.reg 3#4).read 0 base.psw base = .ok 0#8 ∧ (ByteOperand.reg 1#4).read 1 base.psw base = .ok 0#8 ∧
    (ByteOperand.reg 3#4).write 0#8 base.psw base = .ok u ∧ (ByteOperand.reg 1#4).write 0#8 base.psw u = .ok w :=
  ⟨_, _, .xchAR1 _, rfl, rfl, rfl, rfl⟩

theorem witness_WordMovesCopyOneWord : ∃ u, WordMove base.psw (.movwSpWord 0xFEE0#16) .sp (.imm 0xFEE0#16) ∧
    (WordOperand.imm 0xFEE0#16).read 0 base.psw base = .ok 0xFEE0#16 ∧
    WordOperand.sp.write 0xFEE0#16 base.psw base = .ok u := ⟨_, .movwSpWord _, rfl, rfl⟩

theorem witness_WordExchangesSwapTwoWords : ∃ u v, WordExchange base.psw (.xchwRpRp1 2#3 6#3) (.pair 2#3) (.pair 6#3) ∧
    (WordOperand.pair 6#3).read 0 base.psw base = .ok 0#16 ∧ (WordOperand.pair 2#3).read 1 base.psw base = .ok 0#16 ∧
    (WordOperand.pair 6#3).write 0#16 base.psw base = .ok u ∧ (WordOperand.pair 2#3).write 0#16 base.psw u = .ok v :=
  ⟨_, _, .xchwRpRp1 _ _, rfl, rfl, rfl, rfl⟩

theorem witness_MemoryMovesUseTheEffectiveAddress :
    (MemLoad (.movAMem1 .hlInc) .hlInc ∧ MemStore (.movMemA (.wordB 0xFFFF#16)) (.wordB 0xFFFF#16) ∧
      MemExchange (.xchAMem .de) .de) ∧
    readByte 0 (effectiveAddress .hlInc base) base = .ok 0#8 ∧
    (∃ u, writeByte (effectiveAddress (.wordB 0xFDFF#16) base) (readReg base.psw base.psw.regA base) base = .ok u) ∧
    (readByte 0 (effectiveAddress .de base) base = .ok 0#8 ∧
      ∃ u, writeByte (effectiveAddress .de base) (readReg base.psw base.psw.regA base) base = .ok u) :=
  ⟨⟨.movAMem1 _, .movMemA _, .xchAMem _⟩, rfl, ⟨_, rfl⟩, rfl, _, rfl⟩

theorem witness_IndirectMovesUseTheWordAtSaddr :
    saddrpAddr 0x20#8 = .ok 0xFE20#16 ∧ readWord 2 0xFE20#16 base = .ok 0#16 ∧ readByte 0 0#16 base = .ok 0#8 ∧
      ∃ u, writeByte 0#16 (readReg base.psw base.psw.regA base) base = .ok u := ⟨rfl, rfl, rfl, _, rfl⟩

theorem witness_ByteOperationsResultAndFlags :
    (ByteArith base.psw (.cmpAByte 0x80#8) .cmp (.reg 1#4) (.imm 0x80#8) ∧ ByteArith base.psw (.addcASaddr 0x20#8) .addc (.reg 1#4) (.saddr 0x20#8)) ∧
    ((ByteOperand.imm 0x80#8).read 0 base.psw base = .ok 0x80#8 ∧ (ByteOperand.saddr 0x20#8).read 0 base.psw base = .ok 0#8 ∧
      (ByteOperand.reg 1#4).read 1 base.psw base = .ok 0#8) ∧
    ∃ u, (ByteOperand.reg 1#4).write (aluValue .addc base.psw.cy 0#8 0#8) base.psw base = .ok u :=
  ⟨⟨.cmpAByte _, .addcASaddr _⟩, ⟨rfl, rfl, rfl⟩, _, rfl⟩

theorem witness_MemoryOperationsResultAndFlags :
    (MemArith (.cmpAMem .hlInc) .cmp false .hlInc ∧ MemArith (.subMemA .de) .sub true .de) ∧
    (readByte 0 (effectiveAddress .hlInc base) base = .ok 0#8 ∧ readByte 1 (effectiveAddress .de base) base = .ok 0#8) ∧
    ∃ u, (ByteOperand.mem (effectiveAddress .de base)).write (aluValue .sub base.psw.cy 0#8 0#8) base.psw base = .ok u :=
  ⟨⟨.cmpAMem _, .subMemA _⟩, ⟨rfl, rfl⟩, _, rfl⟩

theorem witness_WordOperationsResultAndFlags :
    (WordArith base.psw (.cmpwAxWord 0x8000#16) .cmpw (.pair 0#3) (.imm 0x8000#16) ∧
      WordArith base.psw (.addwRpRp1 7#3 6#3) .addw (.pair 7#3) (.pair 6#3)) ∧
    ((WordOperand.imm 0x8000#16).read 0 base.psw base = .ok 0x8000#16 ∧ (WordOperand.pair 0#3).read 1 base.psw base = .ok 0#16 ∧
      (WordOperand.pair 6#3).read 0 base.psw base = .ok 0#16 ∧ (WordOperand.pair 7#3).read 1 base.psw base = .ok 0#16) ∧
    ∃ u, (WordOperand.pair 7#3).write (wordValue .addw 0#16 0#16) base.psw base = .ok u :=
  ⟨⟨.cmpwAxWord _, .addwRpRp1 _ _⟩, ⟨rfl, rfl, rfl, rfl⟩, _, rfl⟩

theorem witness_ByteStepsResultAndFlags : ∃ u, ByteStep (.decSaddr 0xFF#8) false (.saddr 0xFF#8) ∧
    (ByteOperand.saddr 0xFF#8).read 0 base.psw base = .ok 0#8 ∧
    (ByteOperand.saddr 0xFF#8).write (BitVec.ofInt 8 ((0#8 : Byte).toNat - 1)) base.psw base = .ok u := ⟨_, .decSaddr _, rfl, rfl⟩

theorem witness_WordStepsChangeOneWord : ∃ u, WordStep .incwSp true .sp ∧ WordOperand.sp.read 0 base.psw base = .ok 0xFE80#16 ∧
    WordOperand.sp.write (BitVec.ofNat 16 ((0xFE80#16).toNat + 1)) base.psw base = .ok u ∧ (0x01#8).toNat % 2 = 1 :=
  ⟨_, .incwSp, rfl, rfl, rfl⟩

/-- Every register of bank 0 but A and X holds 1. -/
def ones : State := put ((List.range 14).map fun j => (0xFEF2 + j, 0x01#8)) base

theorem witness_MultiplicationIsExact : 1#3 ≠ base.psw.accumulator := by decide

theorem witness_DivisionGivesQuotientAndRemainder :
    ((readReg ones.psw (reg8 3#3) ones).toNat ≠ 0 ∧ reg8 3#3 ≠ ones.psw.regA ∧ reg8 3#3 ≠ ones.psw.regX) ∧
    ((readPair ones.psw 3#3 ones).toNat ≠ 0 ∧ 3#3 ≠ ones.psw.accumulator ∧ 3#3 ≠ pairDe) := by decide

theorem witness_ByteRotatesAndShifts : ByteShift (.rolcR1N 1#3 7#3) .rolc 1#3 7#3 ∧ 7#3 ≠ 0#3 ∧ 1#3 ≠ 0#3 ∧
    ByteShift (.shrR1N 1#3 0#3) .shr 1#3 0#3 := ⟨.rolcR1N _ _, by decide, by decide, .shrR1N _ _⟩

theorem witness_WordShifts : WordShift (.shlwRp1N 7#3 7#3) .shl 7#3 7#3 ∧ 7#3 ≠ 0#3 ∧ WordShift (.shrwRp1N 0#3 0#3) .shr 0#3 0#3 :=
  ⟨.shlwRp1N _ _, by decide, .shrwRp1N _ _⟩

theorem witness_DigitRotates : readByte 0 (readPair base.psw 7#3 base) base = .ok 0#8 ∧
    ∃ u, writeByte (readPair base.psw 7#3 base) (BitVec.ofNat 8 0) base = .ok u := ⟨rfl, _, rfl⟩

/-- HL and DE hold FE40H, A and the byte there differ in every digit. -/
def digits : State :=
  put [(0xFEFE, 0x40#8), (0xFEFF, 0xFE#8), (0xFEFC, 0x40#8), (0xFEFD, 0xFE#8), (0xFEF1, 0x12#8), (0xFE40, 0x34#8)] base

theorem witness_DigitRotatesAreInverses_right : ∃ t u, digits.mem.wf = true ∧
    plain digits (readPair digits.psw 7#3 digits).toNat = true ∧
    (readPair digits.psw 7#3 digits).toNat ≠ regAddr digits.psw.rbs digits.psw.regA ∧
    readPair digits.psw 6#3 t = readPair digits.psw 7#3 digits ∧
    exec (.ror4IndRp1 7#3) digits = .next t ∧ exec (.rol4IndRp1 6#3) t = .next u :=
  ⟨_, _, by decide, by decide, by decide, by decide, rfl, rfl⟩

theorem witness_DigitRotatesAreInverses_left : ∃ t u, readPair digits.psw 6#3 t = readPair digits.psw 7#3 digits ∧
    exec (.rol4IndRp1 7#3) digits = .next t ∧ exec (.ror4IndRp1 6#3) t = .next u := ⟨_, _, by decide, rfl, rfl⟩

theorem witness_DecimalAdjustGivesTheDecimalResult : isBcd 0x99#8 = true ∧ isBcd 0x00#8 = true := by decide

theorem witness_BitFormsIntoCarry : CarryBit base.psw (.and1CyNotSaddrBit 0xFF#8 7#3) .andNot (.saddr 0xFF#8) 7#3 ∧
    (ByteOperand.saddr 0xFF#8).read 0 base.psw base = .ok 0#8 := ⟨.and1CyNotSaddrBit _ _, rfl⟩

theorem witness_BitFormsIntoMemory : ∃ u, BitWrite base.psw (.set1SaddrBit 0x20#8 7#3) .set (.saddr 0x20#8) 7#3 ∧
    (ByteOperand.saddr 0x20#8).read 0 base.psw base = .ok 0#8 ∧
    (∀ j, j < 8 → (0x80#8).getLsbD j = if j = (7#3).toNat then BitOp.set.value base.psw.cy ((0#8).getLsbD (7#3).toNat)
      else (0#8).getLsbD j) ∧
    (ByteOperand.saddr 0x20#8).write 0x80#8 base.psw base = .ok u := ⟨_, .set1SaddrBit _ _, rfl, by decide, rfl⟩

theorem witness_ControlInstructionsChangeThePswAlone : PswOnly base.psw .ei { base.psw with ie := true } := .ei

theorem witness_CallsPushTheReturnAddress : ∃ u v,
    writeByte (base.sp - 1#16) (Word.hi (base.after 3)) base = .ok u ∧ writeByte (base.sp - 2#16) (Word.lo (base.after 3)) u = .ok v ∧
    DirectCall base (.callAddr16 0x1000#16) 0x1000#16 := ⟨_, _, rfl, rfl, .callAddr16 _⟩

theorem witness_CallsPushTheReturnAddress_table : ∃ u v,
    writeByte (base.sp - 1#16) (Word.hi (base.after 1)) base = .ok u ∧ writeByte (base.sp - 2#16) (Word.lo (base.after 1)) u = .ok v ∧
    (v.byte 0xFF4E).getLsbD 1 = false ∧ readWord 0 0x007E#16 { v with sp := base.sp - 2#16 } = .ok 0#16 :=
  ⟨_, _, rfl, rfl, by decide, rfl⟩

theorem witness_CallsPushTheReturnAddress_indirect : ∃ u v,
    writeByte (base.sp - 1#16) (Word.hi (base.after 2)) base = .ok u ∧ writeByte (base.sp - 2#16) (Word.lo (base.after 2)) u = .ok v ∧
    readWord 0 (readPair base.psw 6#3 base) base = .ok 0#16 := ⟨_, _, rfl, rfl, rfl⟩

theorem witness_BrkEntersThroughItsVector : ∃ t u v w,
    writeByte (base.sp - 1#16) base.psw.high base = .ok t ∧ writeByte (base.sp - 2#16) base.psw.low t = .ok u ∧
    writeByte (base.sp - 3#16) (Word.hi (base.after 1)) u = .ok v ∧ writeByte (base.sp - 4#16) (Word.lo (base.after 1)) v = .ok w ∧
    readWord 0 0x003E#16 w = .ok 0#16 := ⟨_, _, _, _, rfl, rfl, rfl, rfl, rfl⟩

theorem witness_ReturnsPopTheStack : readWord 0 base.sp base = .ok 0#16 ∧ readByte 0 (base.sp + 2#16) base = .ok 0#8 ∧
    readByte 0 (base.sp + 3#16) base = .ok 0#8 := ⟨rfl, rfl, rfl⟩

/-- A request of EXIF0 to be served by its vector, by a context switch to bank 5, or by macroservice (R612). -/
def bySource (macroservice context : Bool) : SourceState where
  request := true
  masked := false
  macroservice := macroservice
  context := context
  bank := 5#3
  ended := false
  changed := true

/-- A boundary at 0120H inside a routine of NMI, with the request of EXIF0 at level 3 (R610, R612). -/
def requesting (macroservice context : Bool) : State :=
  { start [] (0x0120#16, 0xFE80#16, 0x41#8, 0x01#8) with
    sources := State.reset.sources.set .exif0 (bySource macroservice context)
    levels := State.reset.levels.set .external 3#3
    service := [.nmi]
    accepted := true }

theorem witness_EndOfServiceRemovesOneEntry_vector : ∃ t u,
    (requesting false false).mem.wf = true ∧ (requesting false false).run = .running ∧
    boundary (requesting false false) = some (.maskable .exif0) ∧
    (∀ q, Event.maskable .exif0 = .maskable q → serviceMode (requesting false false) q = .vector) ∧
    (∀ j, 1 ≤ j → j ≤ 4 → plain (requesting false false) ((requesting false false).sp - BitVec.ofNat 16 j).toNat = true) ∧
    step (requesting false false) = .next t ∧ t.service = [.level 3#3, .nmi] ∧ exec .reti t = .next u := by
  refine ⟨_, _, by decide, rfl, by decide, fun q h => ?_, fun j h g => ?_, rfl, rfl, rfl⟩
  · cases h; decide
  · interval_cases j <;> decide

theorem witness_EndOfServiceRemovesOneEntry_context : ∃ t u,
    (requesting false true).mem.wf = true ∧ (requesting false true).run = .running ∧
    boundary (requesting false true) = some (.maskable .exif0) ∧ serviceMode (requesting false true) .exif0 = .context ∧
    step (requesting false true) = .next t ∧ t.service = [.level 3#3, .nmi] ∧ exec (.retcsAddr16 0x0400#16) t = .next u :=
  ⟨_, _, by decide, rfl, by decide, by decide, rfl, rfl, rfl⟩

theorem witness_EndOfServiceRemovesOneEntry_empty : ∃ t u,
    base.service = [] ∧ exec .reti base = .next t ∧ exec (.retcsAddr16 0x0400#16) base = .next u := ⟨_, _, rfl, rfl, rfl⟩

/-- SP and UP hold FE80H for a push, FE00H for a pop. -/
def stackAt (a : Addr) : State := put [(0xFEFA, Word.lo a), (0xFEFB, Word.hi a)] { base with sp := a }

/-- The sixteen bytes below FE80H lie in memory and not over a register bank. -/
theorem below_stack : ∀ j, 1 ≤ j → j ≤ 16 → plain (stackAt 0xFE80#16) (0xFE80#16 - BitVec.ofNat 16 j).toNat = true ∧
    ∀ r : RegNo, (0xFE80#16 - BitVec.ofNat 16 j).toNat ≠ regAddr 0#3 r := by
  intro j h g
  interval_cases j <;> exact ⟨by decide, below_registers (by decide) 0#3⟩

/-- The sixteen bytes from FE00H up lie in memory and not over a register bank. -/
theorem above_stack : ∀ j, j < 16 → plain (stackAt 0xFE00#16) (0xFE00#16 + BitVec.ofNat 16 j).toNat = true ∧
    ∀ r : RegNo, (0xFE00#16 + BitVec.ofNat 16 j).toNat ≠ regAddr 0#3 r := by
  intro j h
  interval_cases j <;> exact ⟨by decide, below_registers (by decide) 0#3⟩

/-- A post byte of FFH selects eight items. -/
theorem eight_items :
    (([7#3, 6#3, 5#3, 4#3, 3#3, 2#3, 1#3, 0#3] : List PairNo).filter fun k => (0xFF#8).getLsbD k.toNat).length = 8 := by decide

theorem witness_PushAndPopTransferTheSelectedPairs :
    ((stackAt 0xFE80#16).mem.wf = true ∧ ∀ j, 1 ≤ j → j ≤ 2 * 8 →
      plain (stackAt 0xFE80#16) ((stackAt 0xFE80#16).sp - BitVec.ofNat 16 j).toNat = true ∧
        ∀ r : RegNo, ((stackAt 0xFE80#16).sp - BitVec.ofNat 16 j).toNat ≠ regAddr (stackAt 0xFE80#16).psw.rbs r) ∧
    ((stackAt 0xFE00#16).mem.wf = true ∧ ∀ j, j < 2 * 8 →
      plain (stackAt 0xFE00#16) ((stackAt 0xFE00#16).sp + BitVec.ofNat 16 j).toNat = true ∧
        ∀ r : RegNo, ((stackAt 0xFE00#16).sp + BitVec.ofNat 16 j).toNat ≠ regAddr (stackAt 0xFE00#16).psw.rbs r) :=
  ⟨⟨by decide, below_stack⟩, by decide, above_stack⟩

theorem witness_PopUndoesPush : ∃ t u, (stackAt 0xFE80#16).mem.wf = true ∧
    (∀ j, 1 ≤ j → j ≤ 16 → plain (stackAt 0xFE80#16) ((stackAt 0xFE80#16).sp - BitVec.ofNat 16 j).toNat = true ∧
      ∀ r : RegNo, ((stackAt 0xFE80#16).sp - BitVec.ofNat 16 j).toNat ≠ regAddr (stackAt 0xFE80#16).psw.rbs r) ∧
    exec (.pushPost 0xFF#8) (stackAt 0xFE80#16) = .next t ∧ exec (.popPost 0xFF#8) t = .next u :=
  ⟨_, _, by decide, below_stack, rfl, rfl⟩

theorem witness_UserPushAndPopTransferTheSelectedItems :
    ((stackAt 0xFE80#16).mem.wf = true ∧ readPair (stackAt 0xFE80#16).psw 5#3 (stackAt 0xFE80#16) = 0xFE80#16 ∧
      ∀ j, 1 ≤ j → j ≤ 2 * 8 → plain (stackAt 0xFE80#16) (0xFE80#16 - BitVec.ofNat 16 j).toNat = true ∧
        ∀ r : RegNo, (0xFE80#16 - BitVec.ofNat 16 j).toNat ≠ regAddr (stackAt 0xFE80#16).psw.rbs r) ∧
    ((stackAt 0xFE00#16).mem.wf = true ∧ readPair (stackAt 0xFE00#16).psw 5#3 (stackAt 0xFE00#16) = 0xFE00#16 ∧
      ∀ j, j < 2 * 8 → plain (stackAt 0xFE00#16) (0xFE00#16 + BitVec.ofNat 16 j).toNat = true ∧
        ∀ r : RegNo, (0xFE00#16 + BitVec.ofNat 16 j).toNat ≠ regAddr (stackAt 0xFE00#16).psw.rbs r) :=
  ⟨⟨by decide, by decide, below_stack⟩, by decide, by decide, above_stack⟩

theorem witness_PushPswAndPopPsw :
    (∃ u v, writeByte (base.sp - 1#16) base.psw.high base = .ok u ∧ writeByte (base.sp - 2#16) base.psw.low u = .ok v) ∧
    readByte 0 base.sp base = .ok 0#8 ∧ readByte 0 (base.sp + 1#16) base = .ok 0#8 := ⟨⟨_, _, rfl, rfl⟩, rfl, rfl⟩

theorem witness_JumpsAndBranchesChangePcAlone : readWord 0 (readPair base.psw 6#3 base) base = .ok 0#16 ∧
    FlagBranch (.bgtRel 0x80#8) .gt 0x80#8 ∧ Condition.gt.holds base.psw = true ∧ Condition.lt.holds base.psw = false :=
  ⟨rfl, .bgtRel _, rfl, rfl⟩

theorem witness_CompareConditionsAreTheRelations : AluOp.cmp = .cmp ∧ WordOp.subw = .subw := ⟨rfl, rfl⟩

theorem witness_BitBranches : BitTest base.psw (.bfABitRel 0#3 0x80#8) false (.reg 1#4) 0#3 0x80#8 ∧
    BitTestWrite base.psw (.btclrSaddrBitRel 0x20#8 7#3 0x7F#8) true (.saddr 0x20#8) 7#3 0x7F#8 ∧
    (ByteOperand.reg 1#4).read 0 base.psw base = .ok 0#8 ∧ ((0#8).getLsbD 7 == true) = false ∧
    (ByteOperand.saddr 0x20#8).read 0 base.psw (put [(0xFE20, 0xFF#8)] base) = .ok 0xFF#8 ∧ ((0xFF#8).getLsbD 7 == true) = true ∧
    (∀ n, n < 8 → (0x7F#8).getLsbD n = if n = (7#3).toNat then !true else (0xFF#8).getLsbD n) ∧
    ∃ u, (ByteOperand.saddr 0x20#8).write 0x7F#8 base.psw (put [(0xFE20, 0xFF#8)] base) = .ok u :=
  ⟨.bfABitRel _ _, .btclrSaddrBitRel _ _ _, rfl, rfl, rfl, rfl, by decide, _, rfl⟩

theorem witness_CountedBranches : ∃ u, CountBranch base.psw (.dbnzR2Rel .b 0xFE#8) (.reg 3#4) 0xFE#8 ∧
    (ByteOperand.reg 3#4).read 0 base.psw base = .ok 0#8 ∧
    (ByteOperand.reg 3#4).write (BitVec.ofInt 8 ((0#8 : Byte).toNat - 1)) base.psw base = .ok u := ⟨_, .dbnzR2Rel _ _, rfl, rfl⟩

theorem witness_BrkcsAndRetcsSwitchTheContext : base.mem.wf = true := base_wf

theorem witness_ProtectedWritesNeedTheComplement : (0xFE#8).toNat + (0x01#8).toNat = 255 ∧ (0xFE#8).toNat + (0x02#8).toNat ≠ 255 := by
  decide

theorem witness_StringMovesOneIteration : ∃ u v,
    (StringMove .movmInc false false true ∧ StringMove .movbkDec false true false ∧ StringMove .xchmDec true false false ∧
      StringMove .xchbkInc true true true) ∧ base.mem.wf = true ∧
    (readByte 0 (readPair base.psw pairDe base) base = .ok 0#8 ∧ readByte 0 (readPair base.psw pairHl base) base = .ok 0#8 ∧
      readByte 1 (readPair base.psw pairHl base) base = .ok 0#8) ∧
    writeByte (readPair base.psw pairDe base) 0#8 base = .ok u ∧ writeByte (readPair base.psw pairHl u) 0#8 u = .ok v ∧
    writeByte (readPair base.psw pairDe base) (readReg base.psw base.psw.regA base) base = .ok u :=
  ⟨_, _, ⟨.movmInc, .movbkDec, .xchmDec, .xchbkInc⟩, base_wf, ⟨rfl, rfl, rfl⟩, rfl, rfl, rfl⟩

theorem witness_StringComparesOneIteration : base.mem.wf = true ∧ readByte 0 (readPair base.psw pairDe base) base = .ok 0#8 ∧
    StringCompare .cmpmncDec false false .c ∧ 0#8 = readReg base.psw base.psw.regA base ∧
    StringCompare .cmpbkeInc true true .nz ∧ readByte 1 (readPair base.psw pairHl base) base = .ok 0#8 :=
  ⟨base_wf, rfl, .cmpmncDec, rfl, .cmpbkeInc, rfl⟩

theorem witness_ReturnsUndoTheirEntries_brk : ∃ t u, base.mem.wf = true ∧
    (∀ j, 1 ≤ j → j ≤ 4 → plain base (base.sp - BitVec.ofNat 16 j).toNat = true) ∧
    exec .brk base = .next t ∧ exec .reti t = .next u := by
  refine ⟨_, _, base_wf, fun j h g => ?_, rfl, rfl⟩
  interval_cases j <;> decide

theorem witness_ReturnsUndoTheirEntries_brkcs : ∃ t u, base.mem.wf = true ∧
    exec (.brkcsRbn 7#3) base = .next t ∧ exec (.retcsAddr16 0x0400#16) t = .next u := ⟨_, _, base_wf, rfl, rfl⟩

theorem witness_BoundaryTakesTheHighestPriority : boundary (requesting false false) = some (.maskable .exif0) ∧
    boundary (raiseNmi base) = some .nmi ∧ boundary { base with wdtPending := true } = some .wdt := by decide

theorem witness_VectoredInterruptEntry : ∃ t u v w,
    (requesting false false).run = .running ∧ boundary (requesting false false) = some (.maskable .exif0) ∧
    serviceMode (requesting false false) .exif0 = .vector ∧
    writeByte 0xFE7F#16 (requesting false false).psw.high (requesting false false) = .ok t ∧
    writeByte 0xFE7E#16 (requesting false false).psw.low t = .ok u ∧
    writeByte 0xFE7D#16 0x01#8 u = .ok v ∧ writeByte 0xFE7C#16 0x20#8 v = .ok w ∧ readWord 0 0x0004#16 w = .ok 0#16 :=
  ⟨_, _, _, _, rfl, by decide, by decide, rfl, rfl, rfl, rfl, rfl⟩

theorem witness_ContextInterruptEntry : (requesting false true).mem.wf = true ∧ (requesting false true).run = .running ∧
    boundary (requesting false true) = some (.maskable .exif0) ∧ serviceMode (requesting false true) .exif0 = .context := by
  decide

/-- X14 of 95_test_vectors.md: RXB to memory with increment, the record at FE60H. -/
def channel (word : Bool) : MacroChannel :=
  { addrLow := 0x60#8, addrHigh := 0x61#8, sfr := 0x62#8, count := 0x63#8, word := word, toMemory := true, increment := true }

/-- The record of X14, with a special function register and a count. -/
def record (sfr count : Byte) : State := put [(0xFE60, 0x80#8), (0xFE61, 0xFE#8), (0xFE62, sfr), (0xFE63, count)] base

theorem witness_MacroserviceMovesOneDatum : (requesting true false).run ≠ .stopped ∧
    boundary (requesting true false) = some (.maskable .exif0) ∧ serviceMode (requesting true false) .exif0 = .macroservice ∧
    boundary { requesting true true with run := .halted } = some (.maskable .exif0) ∧
    serviceMode { requesting true true with run := .halted } .exif0 = .macroservice := by decide

theorem witness_MacroserviceMovesOneDatum_transfer :
    (record 0x56#8 0x02#8).mem.wf = true ∧ (channel false).addrLow ≠ (channel false).addrHigh ∧
    (channel false).count ≠ (channel false).addrLow ∧ (channel false).count ≠ (channel false).addrHigh ∧
    (∃ v t, readByte 1 0xFF56#16 (record 0x56#8 0x02#8) = .ok v ∧ writeByte 0xFE80#16 v (record 0x56#8 0x02#8) = .ok t) ∧
    (∃ w t, readWord 1 0xFF8A#16 (record 0x8A#8 0x01#8) = .ok w ∧ writeWord 0xFE80#16 w (record 0x8A#8 0x01#8) = .ok t) ∧
    ∃ t u, transfer (channel false) (record 0x56#8 0x02#8) = .ok (t, 0x01#8) ∧
      transfer (channel true) (record 0x8A#8 0x01#8) = .ok (u, 0x00#8) :=
  ⟨by decide, by decide, by decide, by decide, ⟨_, _, rfl, rfl⟩, ⟨_, _, rfl, rfl⟩, _, _, rfl, rfl⟩

theorem witness_StandbyWaitsForItsWakeUp :
    ({ base with run := .halted }.run ≠ .running ∧ boundary { base with run := .halted } = none) ∧
    ({ base with run := .stopped, nmiPending := true }.run ≠ .running ∧
      { base with run := .stopped, nmiPending := true }.nmiPending = true) := by decide

theorem witness_ResetGivesTheStatedValues : ∃ t, base.mem.wf = true ∧ resetPin base = .ok t ∧
    ∀ a, a < 2 → place base.board 0x30#8 a ≠ .external .device := ⟨_, base_wf, rfl, by decide⟩

/-! ## Events (X1, X8, X18, X19 of 95_test_vectors.md) -/

theorem test_vectored_entry : ∃ t, step (put [(0x0004, 0x00#8), (0x0005, 0x04#8)] (requesting false false)) = .next t ∧
    t.pc = 0x0400#16 ∧ t.sp = 0xFE7C#16 ∧ t.psw.low = 0x41#8 ∧ t.psw.high = 0x00#8 ∧ t.service = [.level 3#3, .nmi] ∧
    (t.byte 0xFE7F = 0x01#8 ∧ t.byte 0xFE7E = 0x41#8 ∧ t.byte 0xFE7D = 0x01#8 ∧ t.byte 0xFE7C = 0x20#8) ∧
    requested t .exif0 = false := ⟨_, rfl, rfl, rfl, rfl, rfl, rfl, ⟨rfl, rfl, rfl, rfl⟩, rfl⟩

-- X3 and X4: not accepted with IE = 0, nor masked; the NOP at 0120H runs. R650: nothing is seen in STOP.
theorem test_not_accepted :
    due { requesting false false with psw := base.psw } = none ∧ due (raiseRequest .exif0 base) = none ∧
    raiseRequest .exif0 { base with run := .stopped } = { base with run := .stopped } := by decide

-- 47H: no request, masked, vectored, level 7 (R612).
theorem test_control_47 : ∃ t, writeByte 0xFFC8#16 0x47#8 (requesting true true) = .ok t ∧
    requested t .exif0 = false ∧ masked t .exif0 = true ∧ serviceMode t .exif0 = .vector := ⟨_, rfl, rfl, rfl, rfl⟩

-- R112: BR $0100H at 0100H, and a taken BZ to the next instruction, empty the queue; a NOP does not. Of two stores of one
-- instruction to 0101H the queue may hold the byte before each.
theorem test_prefetch :
    stalePrefetch (refetches (.brRel 0xFE#8) base) 2 base (base.setByte 0x0100 0x01#8) = [] ∧
    refetches (.bzRel 0x00#8) { base with psw := { base.psw with z := true } } = true ∧ refetches .nop base = false ∧
    stalePrefetch false 1 base (((base.setByte 0x0101 0x01#8).setByte 0x0101 0x02#8).advance 1) =
      [(0x0101, 0x00#8), (0x0101, 0x01#8)] := by decide

-- R112, R492: between two iterations of a string instruction at 0100H the queue reaches to 0104H, and a macroservice transfer there
-- keeps what it holds.
theorem test_prefetch_string :
    fetchedAfter false 2 base base = 2 ∧ fetchedAfter false 2 base (base.advance 2) = 0 ∧
    stalePrefetch false 2 base (base.setByte 0x0104 0x01#8) = [(0x0104, 0x00#8)] ∧
    (let s := { base with prefetch := [(0x0104, 0x00#8)], fetched := 2 }
     (afterStep false s.fetched s s).prefetch = [(0x0104, 0x00#8)] ∧ (afterStep false s.fetched s s).fetched = 2) ∧
    stalePrefetch false 0 base (base.setByte 0x0103 0x01#8) = [] := by decide

-- R112, U15: MOV 0FE23H,#01H at FE20H stores into the byte after it, MOV 0FE26H,#01H behind the three bytes after it.
theorem test_store_into_queue :
    (match admittedStep (start [(0xFE20, 0x3A#8), (0xFE21, 0x23#8), (0xFE22, 0x01#8)] (0xFE20#16, 0xFE80#16, 0x00#8, 0x00#8)) with
      | .refused .storeIntoQueue => true
      | _ => false) = true ∧
    (match admittedStep (start [(0xFE20, 0x3A#8), (0xFE21, 0x26#8), (0xFE22, 0x01#8)] (0xFE20#16, 0xFE80#16, 0x00#8, 0x00#8)) with
      | .next t => t.pc == 0xFE23#16 && t.byte 0xFE26 == 0x01#8
      | _ => false) = true := ⟨rfl, rfl⟩

-- R651: what is served in HALT ends it, and the two request bits of STBC read 0.
theorem test_rouse :
    (rouse .halted (put [(0xFF44, 0x21#8)] { base with run := .halted })).run = .running ∧
    (rouse .halted (put [(0xFF44, 0x21#8)] { base with run := .halted })).byte 0xFF44 = 0x20#8 ∧
    due { requesting true false with run := .halted } = some (.maskable .exif0) ∧
    due { requesting false false with run := .halted } = none := by decide

theorem test_nmi_entry : ∃ t, step { start [(0x0002, 0x80#8), (0x0003, 0x04#8)] (0x0120#16, 0xFE80#16, 0x00#8, 0x00#8) with nmiPending := true } = .next t ∧
    t.pc = 0x0480#16 ∧ t.sp = 0xFE7C#16 ∧ t.nmiPending = false ∧ t.service = [.nmi] := ⟨_, rfl, rfl, rfl, rfl, rfl⟩

theorem test_reset_line : ∃ t, resetPin (put [(0x0000, 0x80#8), (0xFE40, 0x5A#8), (0xFF44, 0x0A#8), (0xFF4E, 0x02#8)] base) = .ok t ∧
    t.pc = 0x0080#16 ∧ t.byte 0xFE40 = 0x5A#8 ∧ t.byte 0xFF44 = 0x28#8 ∧ t.byte 0xFF4E = 0x00#8 ∧ t.byte 0xFFC8 = 0x47#8 :=
  ⟨_, rfl, rfl, rfl, rfl, rfl, rfl⟩

end Sys2Proof.Tests
end

section
/-!
Byte accesses by the class of the address (O10, O11).
-/

namespace Sys2Proof.Machine

theorem lo_eq_ofNat (w : Word) : Word.lo w = BitVec.ofNat 8 w.toNat := by
  apply BitVec.eq_of_toNat_eq
  simp [Word.lo]

theorem hi_eq_ofNat (w : Word) : Word.hi w = BitVec.ofNat 8 (w.toNat / 256) := by
  apply BitVec.eq_of_toNat_eq
  simp [Word.hi, Nat.shiftRight_eq_div_pow]

/-! ## The special function registers by the kind of their row in Table 1 (R50, R53 to R57) -/

/-- How a register of a kind answers a read at its address (`readByte_of_kind`). -/
def SfrKind.read (k n : Nat) (s : State) : SfrKind → Except Stop Byte
  | .recorded | .lowReadOnly | .guarded => .ok (s.byte n)
  | .device | .deviceReadOnly | .portLow => .ok (Config.deviceByte s.draws n k)
  | .control q => .ok (if (s.sources.get q).changed then Config.deviceByte s.draws n k else s.byte n)
  | .inService => .ok (if s.accepted then Config.isprByte s.draws else s.byte n)
  | .writeOnly => .error (.fault (.writeOnlySfr n))

/-- How a register of a kind takes a write at its address (`writeByte_of_kind`). -/
def SfrKind.write (n : Nat) (v : Byte) (s : State) : SfrKind → Except Stop State
  | .deviceReadOnly | .inService => .error (.fault (.readOnlySfr n))
  | .control q => .ok ((s.setByte n v).program q v)
  | kind => .ok (s.setByte n (cellAfter kind (s.byte n) v))

theorem readByte_eq_readSfr (k : Nat) {a : Addr} (s : State) (h : 0xFF00 ≤ a.toNat) :
    readByte k a s = readSfr k a.toNat s := by
  rw [readByte, (place_eq_sfr s a.toNat).2 h]

theorem writeByte_eq_writeSfr {a : Addr} (v : Byte) (s : State) (h : 0xFF00 ≤ a.toNat) :
    writeByte a v s = writeSfr a.toNat v s := by
  rw [writeByte, (place_eq_sfr s a.toNat).2 h]

/-- A register of Table 1 is read as its kind says. -/
theorem readByte_of_kind (k : Nat) {a : Addr} (s : State) {kind : SfrKind} (h : 0xFF00 ≤ a.toNat)
    (hk : sfrKind (a.toNat - 0xFF00) = some kind) : readByte k a s = kind.read k a.toNat s := by
  have hlt := sfrKind_lt hk
  rw [readByte_eq_readSfr k s h, readSfr, if_neg (by omega), if_neg (by omega), if_neg (by omega),
    if_neg (by omega), hk]
  cases kind <;> rfl

/-- A register of Table 1 is written as its kind says. -/
theorem writeByte_of_kind {a : Addr} (v : Byte) (s : State) {kind : SfrKind} (h : 0xFF00 ≤ a.toNat)
    (hk : sfrKind (a.toNat - 0xFF00) = some kind) : writeByte a v s = kind.write a.toNat v s := by
  have hlt := sfrKind_lt hk
  rw [writeByte_eq_writeSfr v s h, writeSfr, if_neg (by omega), if_neg (by omega), if_neg (by omega),
    if_neg (by omega), hk]
  cases kind <;> rfl

theorem readByte_sfrHole (k : Nat) {a : Addr} (s : State) (h : 0xFF00 ≤ a.toNat) (hn : a.toNat < 0xFFFC)
    (hk : sfrKind (a.toNat - 0xFF00) = none) : readByte k a s = .error (.fault (.sfrHole a.toNat)) := by
  rw [readByte_eq_readSfr k s h, readSfr, if_neg (by omega), if_neg (by omega), if_neg (by omega),
    if_neg (by omega), hk]

theorem writeByte_sfrHole {a : Addr} (v : Byte) (s : State) (h : 0xFF00 ≤ a.toNat) (hn : a.toNat < 0xFFFC)
    (hk : sfrKind (a.toNat - 0xFF00) = none) : writeByte a v s = .error (.fault (.sfrHole a.toNat)) := by
  rw [writeByte_eq_writeSfr v s h, writeSfr, if_neg (by omega), if_neg (by omega), if_neg (by omega),
    if_neg (by omega), hk]

/-- The window of devices FFB0H to FFBFH (note 4 of Table 1). -/
theorem sfrKind_externalArea {n : Nat} (h : 0xFFB0 ≤ n ∧ n ≤ 0xFFBF) : sfrKind (n - 0xFF00) = some .device :=
  if_pos (by omega)

/-- Outside the window of devices an offset that no row of Table 1 has is a hole. -/
theorem sfrKind_eq_none {off : Nat} (hx : ¬(0xB0 ≤ off ∧ off ≤ 0xBF)) (h : ∀ row ∈ sfrTable, row.off ≠ off) :
    sfrKind off = none := by
  have part : ∀ l : List SfrRow, (∀ row ∈ l, row ∈ sfrTable) → l.find? (fun row => row.off == off) = none :=
    fun l hl => List.find?_eq_none.2 fun row hrow => by simpa using h row (hl row hrow)
  have hrow : sfrRow off = none := by
    unfold sfrRow
    apply part
    split_ifs <;> simp +contextual [sfrTable]
  rw [sfrKind, if_neg hx, hrow]
  rfl

/-- As `sfrKind_eq_none`, for an address and a list that covers Table 1. -/
theorem sfrKind_eq_none_of_covered {n : Nat} {l : List Nat} (hf : 0xFF00 ≤ n) (hx : ¬(0xFFB0 ≤ n ∧ n ≤ 0xFFBF))
    (hl : ∀ row ∈ sfrTable, 0xFF00 + row.off ∈ l) (hn : n ∉ l) : sfrKind (n - 0xFF00) = none :=
  sfrKind_eq_none (by omega) fun row hrow e => hn (by simpa [e, hf] using hl row hrow)

/-! ## Reads -/

/-- Settles O10: below FF00H by what stands at the address, from there on by the kind of the register; the lists of the
statement are held against Table 1 register by register. -/
theorem byteReadByAddressClass : Obligations.ByteReadByAddressClass := by
  intro k a s n device recorded control
  have hdevice : ∀ m ∈ device, sfrKind (m - 0xFF00) = some .device ∨ sfrKind (m - 0xFF00) = some .deviceReadOnly ∨
    sfrKind (m - 0xFF00) = some .portLow := by decide
  have hrecorded : ∀ m ∈ recorded, sfrKind (m - 0xFF00) = some .recorded ∨ sfrKind (m - 0xFF00) = some .lowReadOnly ∨
    sfrKind (m - 0xFF00) = some .guarded := by decide
  have hcontrol : ∀ m ∈ control, ∃ q ∈ Source.all, sfrKind (m - 0xFF00) = some (.control q) := by decide
  have hcovered : ∀ row ∈ sfrTable, 0xFF00 + row.off ∈ device ++ recorded ++ control ++ [0xFF4A, 0xFF57] := by decide
  have hn : n = a.toNat := rfl
  have hlt : n < 0x10000 := a.isLt
  clear_value device recorded control n
  have hsfr (h : ¬n < 0xFF00) : readByte k a s = readSfr k n s := hn ▸ readByte_eq_readSfr k s (by omega)
  have hkind {kind : SfrKind} (h : ¬n < 0xFF00) (hk : sfrKind (n - 0xFF00) = some kind) :
      readByte k a s = kind.read k n s := hn ▸ readByte_of_kind k s (by omega) (hn ▸ hk)
  refine ite_prop_iff_and.2 ⟨fun hlow => ?below, fun hf =>
    ite_prop_iff_and.2 ⟨fun e => ?spLow, fun hspl =>
    ite_prop_iff_and.2 ⟨fun e => ?spHigh, fun hsph =>
    ite_prop_iff_and.2 ⟨fun e => ?pswLow, fun hpswl =>
    ite_prop_iff_and.2 ⟨fun e => ?pswHigh, fun hpswh =>
    ite_prop_iff_and.2 ⟨fun hd => ?device, fun hdev =>
    ite_prop_iff_and.2 ⟨fun hr => ?recorded, fun hrec =>
    ite_prop_iff_and.2 ⟨fun hc => ?control, fun hcon =>
    ite_prop_iff_and.2 ⟨fun e => ?ispr, fun hispr =>
    ite_prop_iff_and.2 ⟨fun e => ?txb, fun htxb => ?hole⟩⟩⟩⟩⟩⟩⟩⟩⟩⟩
  case below =>
    cases hp : s.place n with
    | sfr => exact absurd ((place_eq_sfr s n).1 hp) (by omega)
    | external kind => cases kind <;> simp only [readByte, ← hn, hp]
    | _ => simp only [readByte, ← hn, hp]
  case spLow => rw [hsfr hf, e]; exact congrArg Except.ok (lo_eq_ofNat s.sp)
  case spHigh => rw [hsfr hf, e]; exact congrArg Except.ok (hi_eq_ofNat s.sp)
  case pswLow => rw [hsfr hf, e]; rfl
  case pswHigh => rw [hsfr hf, e]; rfl
  case device =>
    rcases hd with hd | hwindow
    · rcases hdevice n hd with hk | hk | hk <;> exact hkind hf hk
    · exact hkind hf (sfrKind_externalArea hwindow)
  case recorded => rcases hrecorded n hr with hk | hk | hk <;> exact hkind hf hk
  case control =>
    obtain ⟨q, -, hk⟩ := hcontrol n hc
    exact ⟨q, by rw [sfrKind_control hk]; omega, hkind hf hk⟩
  case ispr =>
    refine ⟨_, hkind (kind := .inService) hf (e ▸ rfl), fun h => ?_⟩
    rw [h]
    rfl
  case txb => exact hkind (kind := .writeOnly) hf (e ▸ rfl)
  case hole =>
    obtain ⟨hnodev, hwindow⟩ := not_or.1 hdev
    have hk := sfrKind_eq_none_of_covered (by omega) hwindow hcovered (by simp [hnodev, hrec, hcon, hispr, htxb])
    exact hn ▸ readByte_sfrHole k s (by omega) (by omega) (hn ▸ hk)

/-! ## Writes -/

/-- What a store of one byte does to the state that a write answers. -/
theorem stores_of_setByte {a : Addr} {v w : Byte} {s : State} {n : Nat} (hs : s.mem.wf = true)
    (h : writeByte a v s = .ok (s.setByte n w)) : ∃ t, writeByte a v s = .ok t ∧ t.byte n = w ∧ OnlyCells [n] s t :=
  ⟨_, h, State.byte_setByte_same s n w hs, setByte_only s n w⟩

/-- Two bytes joined at their nibbles, as a number. -/
theorem join_nibbles (v old : Byte) :
    v &&& 0xF0#8 ||| old &&& 0x0F#8 = BitVec.ofNat 8 (v.toNat / 16 * 16 + old.toNat % 16) := by
  have e : v &&& 0xF0#8 ||| old &&& 0x0F#8 = v.extractLsb' 4 4 ++ old.extractLsb' 0 4 := by
    refine BitVec.eq_of_getLsbD_eq fun i hi => ?_
    rw [BitVec.getLsbD_append]
    interval_cases i <;> simp
  rw [e]
  apply BitVec.eq_of_toNat_eq
  simp only [BitVec.toNat_append, BitVec.extractLsb'_toNat, BitVec.toNat_ofNat, Nat.shiftRight_eq_div_pow]
  rw [← Nat.shiftLeft_add_eq_or_of_lt (by omega), Nat.shiftLeft_eq]
  omega

theorem Psw.withLow_low (p : Psw) (v : Byte) : (p.withLow v).low = v := by
  refine BitVec.eq_of_getLsbD_eq fun i hi => ?_
  unfold Psw.withLow Psw.low
  iterate 7 rw [BitVec.getLsbD_append]
  interval_cases i <;> simp

theorem Psw.withHigh_rbs (p : Psw) (v : Byte) : (p.withHigh v).rbs.toNat = v.toNat / 16 % 8 := by
  simp [Psw.withHigh, Nat.shiftRight_eq_div_pow]

theorem Psw.withHigh_ie (p : Psw) (v : Byte) : (p.withHigh v).ie = decide (v.toNat % 2 = 1) := by
  simp [Psw.withHigh, BitVec.getLsbD, Nat.testBit_zero]

/-! ## The control register of a source after a write (R612) -/

theorem Source.fields_reset (q : Source) :
    q.fields 0x47#8 = { Config.controlFields q.priority 0x47#8 with
      request := false, masked := true, macroservice := false, context := false,
      level := (Config.controlFields q.priority 0x47#8).level.map fun _ => 7#3 } := by
  rw [Source.fields, if_pos rfl]

theorem Source.fields_of_ne (q : Source) {v : Byte} (h : v ≠ 0x47#8) : q.fields v = Config.controlFields q.priority v :=
  if_neg h

/-- 47H says of the bank what `Config.controlFields` says (log 6). -/
theorem Source.fields_bank (q : Source) (v : Byte) : (q.fields v).bank = (Config.controlFields q.priority v).bank := by
  by_cases h : v = 0x47#8
  · rw [h, q.fields_reset]
  · rw [q.fields_of_ne h]

/-- The level of its own group after a control register is written. -/
theorem Source.programLevel_same (q : Source) (v : Byte) (t : Levels) :
    (q.programLevel v t).get q.group = (q.fields v).level.getD (t.get q.group) := by
  unfold Source.programLevel
  cases (q.fields v).level with
  | none => rfl
  | some k => simp

theorem State.program_get (s : State) (q : Source) (v : Byte) : (s.program q v).sources.get q = q.programmed v := by
  simp

theorem level_program (s : State) (q : Source) (v : Byte) :
    level (s.program q v) q = (q.fields v).level.getD (level s q) := q.programLevel_same v s.levels

/-- What a source holds once its control register is written: 47H is the byte of the reset, any other byte is read by
`Config.controlFields`, and the level changes only where the register holds it (R612, log 27). -/
theorem program_controlFields (s : State) (q : Source) (v : Byte) :
    let f := Config.controlFields q.priority v
    let t := s.program q v
    let c := t.sources.get q
    c.changed = false ∧ c.ended = false ∧ c.bank = f.bank ∧
      (v = 0x47#8 → requested t q = false ∧ masked t q = true ∧ serviceMode t q = .vector ∧ c.macroservice = false ∧
        c.context = false ∧ level t q = (if f.level = none then level s q else 7#3)) ∧
      (v ≠ 0x47#8 → requested t q = f.request ∧ masked t q = f.masked ∧
        c.macroservice = (f.macroservice && q.canMacro) ∧ c.context = f.context ∧
        level t q = f.level.getD (level s q)) := by
  intro f t c
  have hc : c = q.programmed v := State.program_get s q v
  have hlevel : level t q = (q.fields v).level.getD (level s q) := level_program s q v
  refine ⟨by rw [hc]; rfl, by rw [hc]; rfl, by rw [hc]; exact q.fields_bank v, fun hv => ?_, fun hv => ?_⟩
  · have hp : c = { SourceState.reset with bank := f.bank } := by
      rw [hc, Source.programmed, hv, q.fields_reset, ← hv]
      rfl
    have hmode : serviceMode t q = .vector := by
      unfold serviceMode
      rw [show t.sources.get q = _ from hp]
      rfl
    have hreset : level t q = if f.level = none then level s q else 7#3 := by
      rw [hlevel, hv, q.fields_reset, ← hv]
      cases f.level <;> simp
    exact ⟨congrArg (·.request) hp, congrArg (·.masked) hp, hmode, congrArg (·.macroservice) hp,
      congrArg (·.context) hp, hreset⟩
  · rw [q.fields_of_ne hv] at hlevel
    rw [Source.programmed, q.fields_of_ne hv] at hc
    exact ⟨congrArg (·.request) hc, congrArg (·.masked) hc, congrArg (·.macroservice) hc, congrArg (·.context) hc, hlevel⟩

/-- Settles O11: below FF00H by what stands at the address, from there on by the kind of the register; the lists of the
statement are held against Table 1 register by register. -/
theorem byteWriteByAddressClass : Obligations.ByteWriteByAddressClass := by
  intro a v s hs n stores recorded control
  have hrecorded : ∀ m ∈ recorded, sfrKind (m - 0xFF00) = some .recorded ∨ sfrKind (m - 0xFF00) = some .device ∨
    sfrKind (m - 0xFF00) = some .writeOnly := by decide
  have hcontrol : ∀ m ∈ control, ∃ q ∈ Source.all, sfrKind (m - 0xFF00) = some (.control q) := by decide
  have hcovered : ∀ row ∈ sfrTable, 0xFF00 + row.off ∈ recorded ++ control ++
    [0xFF02, 0xFF03, 0xFF22, 0xFF23, 0xFF42, 0xFF44, 0xFF4A, 0xFF56, 0xFF6A] := by decide
  have hstores {w : Byte} (h : writeByte a v s = .ok (s.setByte n w)) : stores w := stores_of_setByte hs h
  have hn : n = a.toNat := rfl
  have hlt : n < 0x10000 := a.isLt
  clear_value stores recorded control n
  have hsfr (h : ¬n < 0xFF00) : writeByte a v s = writeSfr n v s := hn ▸ writeByte_eq_writeSfr v s (by omega)
  have hkind {kind : SfrKind} (h : ¬n < 0xFF00) (hk : sfrKind (n - 0xFF00) = some kind) :
      writeByte a v s = kind.write n v s := hn ▸ writeByte_of_kind v s (by omega) (hn ▸ hk)
  refine ite_prop_iff_and.2 ⟨fun hlow => ?below, fun hf =>
    ite_prop_iff_and.2 ⟨fun e => ?spLow, fun hspl =>
    ite_prop_iff_and.2 ⟨fun e => ?spHigh, fun hsph =>
    ite_prop_iff_and.2 ⟨fun e => ?pswLow, fun hpswl =>
    ite_prop_iff_and.2 ⟨fun e => ?pswHigh, fun hpswh =>
    ite_prop_iff_and.2 ⟨fun e => ?lowReadOnly, fun hnib =>
    ite_prop_iff_and.2 ⟨fun e => ?guarded, fun hgua =>
    ite_prop_iff_and.2 ⟨fun e => ?readOnly, fun hro =>
    ite_prop_iff_and.2 ⟨fun hc => ?control, fun hcon =>
    ite_prop_iff_and.2 ⟨fun hr => ?recorded, fun hrec => ?hole⟩⟩⟩⟩⟩⟩⟩⟩⟩⟩
  case below =>
    cases hp : s.place n with
    | sfr => exact absurd ((place_eq_sfr s n).1 hp) (by omega)
    | ram => exact hstores (by simp only [writeByte, ← hn, hp])
    | external kind =>
      cases kind with
      | readOnly => simp only [writeByte, ← hn, hp]
      | _ => exact hstores (by simp only [writeByte, ← hn, hp])
    | _ => simp only [writeByte, ← hn, hp]
  case spLow => exact ⟨_, by rw [hsfr hf, e]; rfl, rfl⟩
  case spHigh => exact ⟨_, by rw [hsfr hf, e]; rfl, rfl⟩
  case pswLow => exact ⟨s.withPsw (s.psw.withLow v), by rw [hsfr hf, e]; rfl, rfl, s.psw.withLow_low v, rfl⟩
  case pswHigh =>
    exact ⟨s.withPsw (s.psw.withHigh v), by rw [hsfr hf, e]; rfl, rfl, rfl, s.psw.withHigh_rbs v, s.psw.withHigh_ie v⟩
  case lowReadOnly =>
    rw [← join_nibbles]
    rcases e with e | e | e | e
    · exact hstores (hkind (kind := .portLow) hf (e ▸ rfl))
    · exact hstores (hkind (kind := .portLow) hf (e ▸ rfl))
    · exact hstores (hkind (kind := .lowReadOnly) hf (e ▸ rfl))
    · exact hstores (hkind (kind := .lowReadOnly) hf (e ▸ rfl))
  case guarded => exact hstores (hkind (kind := .guarded) hf (by rcases e with e | e <;> rw [e] <;> rfl))
  case readOnly =>
    rcases e with e | e | e
    · exact hkind (kind := .inService) hf (e ▸ rfl)
    · exact hkind (kind := .deviceReadOnly) hf (e ▸ rfl)
    · exact hkind (kind := .deviceReadOnly) hf (e ▸ rfl)
  case control =>
    obtain ⟨q, -, hk⟩ := hcontrol n hc
    have hq : q.control = n := by rw [sfrKind_control hk]; omega
    refine ⟨q, (s.setByte n v).program q v, hq, hkind hf hk, State.byte_setByte_same s n v hs, ?_,
      program_controlFields (s.setByte n v) q v⟩
    exact hq ▸ program_only s q v
  case recorded =>
    rcases hr with hr | hwindow
    · rcases hrecorded n hr with hk | hk | hk <;> exact hstores (hkind hf hk)
    · exact hstores (hkind hf (sfrKind_externalArea hwindow))
  case hole =>
    obtain ⟨hnorec, hwindow⟩ := not_or.1 hrec
    simp only [not_or] at hnib hgua hro
    have hk := sfrKind_eq_none_of_covered (by omega) hwindow hcovered (by simp [hnorec, hcon, hnib, hgua, hro])
    exact hn ▸ writeByte_sfrHole v s (by omega) (by omega) (hn ▸ hk)

end Sys2Proof.Machine
end

section
/-!
The decoder reads back what the encoder writes (R140 to R149): first the fields of a byte and the operands, then each instruction.
-/

namespace Sys2Proof

/-! ## Fields of a byte and operands -/

theorem op5_group (g : BitVec 5) (f : BitVec 3) : (op5 g f).extractLsb' 3 5 = g := BitVec.extractLsb'_append_eq_left

theorem op5_field (g : BitVec 5) (f : BitVec 3) : (op5 g f).extractLsb' 0 3 = f := BitVec.extractLsb'_append_eq_right

/-- A word is two bytes. -/
theorem exists_ofBytes (w : Word) : ∃ l h, w = Word.ofBytes l h := ⟨_, _, (Machine.ofBytes_lo_hi w).symm⟩

theorem pairOfQ_qOfPair : ∀ k : PairNo, pairOfQ (qOfPair k) = k := by decide

/-- A pair has a permuted code. -/
theorem exists_pairOfQ (k : PairNo) : ∃ q, k = pairOfQ q ∧ qOfPair k = q := ⟨_, (pairOfQ_qOfPair k).symm, rfl⟩

/-- The fields of a byte of three. -/
theorem append_append_fields {a b c : Nat} (x : BitVec a) (y : BitVec b) (z : BitVec c) :
    (x ++ y ++ z).extractLsb' (c + b) a = x ∧ (x ++ y ++ z).extractLsb' c b = y ∧ (x ++ y ++ z).extractLsb' 0 c = z := by
  refine ⟨?_, ?_, BitVec.extractLsb'_append_eq_right⟩
  · rw [BitVec.extractLsb'_append_eq_of_le (by omega), Nat.add_sub_cancel_left]
    exact BitVec.extractLsb'_append_eq_left
  · rw [BitVec.extractLsb'_append_eq_of_le (by omega), Nat.sub_self]
    exact BitVec.extractLsb'_append_eq_right

theorem pairByte_fields : ∀ k j : PairNo, (pairByte k j).extractLsb' 3 1 = 1#1 ∧ (pairByte k j).extractLsb' 4 1 = 0#1 ∧
    (pairByte k j).extractLsb' 5 3 = k ∧ pairOfQ ((pairByte k j).extractLsb' 0 3) = j := by decide

theorem plainSfr_ne {off : Byte} (h : plainSfr off = true) : off ≠ 0xFC#8 ∧ off ≠ 0xFE#8 ∧ off ≠ 0xFF#8 := by
  refine ⟨?_, ?_, ?_⟩ <;> rintro rfl <;> exact absurd h (by decide)

/-! ## Forms that several instructions share -/

theorem decode_op5 (g : BitVec 5) (f : BitVec 3) (tl : List Byte) :
    decode (op5 g f :: tl) = first (op5 g f) g f tl := by
  rw [decode, op5_group, op5_field]

theorem decode02_op5 (g : BitVec 5) (f : BitVec 3) (tl : List Byte) :
    decode (0x02#8 :: op5 g f :: tl) = second02 (op5 g f) g f tl :=
  congrArg₂ (second02 (op5 g f) · · tl) (op5_group g f) (op5_field g f)

theorem decode03_op5 (g : BitVec 5) (f : BitVec 3) (tl : List Byte) :
    decode (0x03#8 :: op5 g f :: tl) = second03 (op5 g f) g f tl :=
  congrArg₂ (second03 (op5 g f) · · tl) (op5_group g f) (op5_field g f)

theorem decode05_op5 (g : BitVec 5) (f : BitVec 3) (tl : List Byte) :
    decode (0x05#8 :: op5 g f :: tl) = second05 (op5 g f) g f tl :=
  congrArg₂ (second05 (op5 g f) · · tl) (op5_group g f) (op5_field g f)

theorem decode08_op5 (g : BitVec 5) (f : BitVec 3) (tl : List Byte) :
    decode (0x08#8 :: op5 g f :: tl) = second08 (op5 g f) g f tl :=
  congrArg₂ (second08 (op5 g f) · · tl) (op5_group g f) (op5_field g f)

theorem decode09_op5 (g : BitVec 5) (f : BitVec 3) (tl : List Byte) :
    decode (0x09#8 :: op5 g f :: tl) = second09 (op5 g f) g f tl :=
  congrArg₂ (second09 (op5 g f) · · tl) (op5_group g f) (op5_field g f)

theorem getRegs_regByte (b1 : Byte) (r : RegNo) (r1 : Reg8) (tl : List Byte) (f : RegNo → Reg8 → Instr)
    (p : Option (PairNo → PairNo → Instr)) : getRegs b1 (regByte r r1 :: tl) f p = .ok (f r r1, tl) := by
  obtain ⟨hr, hz, hr1⟩ := append_append_fields r 0#1 r1
  simp only [getRegs, regByte, hr, hz, hr1, if_true]

theorem getRegs_pairByte (b1 : Byte) (k j : PairNo) (tl : List Byte) (f : RegNo → Reg8 → Instr)
    (p : PairNo → PairNo → Instr) : getRegs b1 (pairByte k j :: tl) f (some p) = .ok (p k j, tl) := by
  obtain ⟨hone, hzero, hk, hj⟩ := pairByte_fields k j
  simp only [getRegs, hone, hzero, hk, hj, if_true]
  rfl

theorem getShift_shiftByte (k : BitVec 2) (n r : BitVec 3) (tl : List Byte) (f g h : Reg8 → BitVec 3 → Instr)
    (p : PairNo → BitVec 3 → Instr) :
    getShift (shiftByte k n r :: tl) f g h p =
      .ok (if k = 0#2 then f r n else if k = 1#2 then g r n else if k = 2#2 then h r n else p (pairOfQ r) n, tl) := by
  obtain ⟨hk, hn, hr⟩ := append_append_fields k n r
  simp only [getShift, get1, shiftByte, hk, hn, hr]

theorem decode_callt (t5 : BitVec 5) (tl : List Byte) :
    decode ((0b111#3 ++ t5) :: tl) = .ok (.calltAddr5 t5, tl) := by
  have hgroup : ∀ t : BitVec 5, ((0b111#3 ++ t).extractLsb' 3 5 = 28#5 ∨ (0b111#3 ++ t).extractLsb' 3 5 = 29#5 ∨
    (0b111#3 ++ t).extractLsb' 3 5 = 30#5 ∨ (0b111#3 ++ t).extractLsb' 3 5 = 31#5) := by decide
  have hfield : (0b111#3 ++ t5).extractLsb' 0 5 = t5 := BitVec.extractLsb'_append_eq_right
  rw [decode]
  rcases hgroup t5 with hg | hg | hg | hg <;>
    exact hg ▸ congrArg (fun t => Except.ok (Instr.calltAddr5 t, tl)) hfield

/-- The operand of a `mem` form from its mode, its field and its offset bytes. -/
theorem memOperand_offsets (m : MemOperand) (tl : List Byte) :
    memOperand m.mode m.code (m.offsets ++ tl) = some (some (m, tl)) := by
  cases m
  case wordDe w | wordA w | wordHl w | wordB w =>
    obtain ⟨l, h, rfl⟩ := exists_ofBytes w
    simp only [MemOperand.offsets, Machine.lo_ofBytes, Machine.hi_ofBytes]
    rfl
  all_goals rfl

theorem decode_mode (m : MemOperand) (tl : List Byte) : decode (m.mode :: tl) = decodeMem m.mode tl := by
  cases m <;> (simp only [MemOperand.mode]; rfl)

theorem decode_memBytes {d : BitVec 1} {op : BitVec 4} {f : MemOperand → Instr} (h : memOperation d op = some f)
    (m : MemOperand) (tl : List Byte) : decode (memBytes d op m ++ tl) = .ok (f m, tl) := by
  obtain ⟨hd, hm, ho⟩ := append_append_fields d m.code op
  rw [memBytes, List.cons_append, decode_mode, List.cons_append, decodeMem, hd, hm, ho, h, memOperand_offsets]

/-! ## Every instruction -/

/-- A well-formed instruction decodes from its own bytes, whatever follows them. -/
theorem decode_encode (i : Instr) (tail : List Byte) (h : i.wellFormed = true) :
    decode (encode i ++ tail) = .ok (i, tail) := by
  cases i
  -- The forms whose second byte holds operands: `mem` (R147), registers (R148), shifts (R149).
  case movAMem m | movMemA m | xchAMem m | addAMem m | addMemA m | addcAMem m | addcMemA m | subAMem m | subMemA m |
      subcAMem m | subcMemA m | andAMem m | andMemA m | xorAMem m | xorMemA m | orAMem m | orMemA m | cmpAMem m |
      cmpMemA m =>
    exact decode_memBytes rfl m tail
  case movRR1 r r1 => exact getRegs_regByte 0x24#8 r r1 tail .movRR1 (some .movwRpRp1)
  case movwRpRp1 k j => exact getRegs_pairByte 0x24#8 k j tail .movRR1 .movwRpRp1
  case xchRR1 r r1 => exact getRegs_regByte 0x25#8 r r1 tail .xchRR1 (some .xchwRpRp1)
  case xchwRpRp1 k j => exact getRegs_pairByte 0x25#8 k j tail .xchRR1 .xchwRpRp1
  case addRR1 r r1 => exact getRegs_regByte 0x88#8 r r1 tail .addRR1 (some .addwRpRp1)
  case addwRpRp1 k j => exact getRegs_pairByte 0x88#8 k j tail .addRR1 .addwRpRp1
  case addcRR1 r r1 => exact getRegs_regByte 0x89#8 r r1 tail .addcRR1 none
  case subRR1 r r1 => exact getRegs_regByte 0x8A#8 r r1 tail .subRR1 (some .subwRpRp1)
  case subwRpRp1 k j => exact getRegs_pairByte 0x8A#8 k j tail .subRR1 .subwRpRp1
  case subcRR1 r r1 => exact getRegs_regByte 0x8B#8 r r1 tail .subcRR1 none
  case andRR1 r r1 => exact getRegs_regByte 0x8C#8 r r1 tail .andRR1 none
  case xorRR1 r r1 => exact getRegs_regByte 0x8D#8 r r1 tail .xorRR1 none
  case orRR1 r r1 => exact getRegs_regByte 0x8E#8 r r1 tail .orRR1 none
  case cmpRR1 r r1 => exact getRegs_regByte 0x8F#8 r r1 tail .cmpRR1 (some .cmpwRpRp1)
  case cmpwRpRp1 k j => exact getRegs_pairByte 0x8F#8 k j tail .cmpRR1 .cmpwRpRp1
  case rorcR1N r n => exact getShift_shiftByte 0#2 n r tail .rorcR1N .rorR1N .shrR1N .shrwRp1N
  case rorR1N r n => exact getShift_shiftByte 1#2 n r tail .rorcR1N .rorR1N .shrR1N .shrwRp1N
  case shrR1N r n => exact getShift_shiftByte 2#2 n r tail .rorcR1N .rorR1N .shrR1N .shrwRp1N
  case rolcR1N r n => exact getShift_shiftByte 0#2 n r tail .rolcR1N .rolR1N .shlR1N .shlwRp1N
  case rolR1N r n => exact getShift_shiftByte 1#2 n r tail .rolcR1N .rolR1N .shlR1N .shlwRp1N
  case shlR1N r n => exact getShift_shiftByte 2#2 n r tail .rolcR1N .rolR1N .shlR1N .shlwRp1N
  all_goals simp only [encode, List.cons_append, List.nil_append, decode_op5, decode02_op5, decode03_op5, decode05_op5,
    decode08_op5, decode09_op5]
  -- Operands in the low bits of the first byte.
  case movAMem1 m | movMemA1 m => cases m <;> rfl
  case incwRp2 k | decwRp2 k => cases k <;> rfl
  case dbnzR2Rel r j => cases r <;> rfl
  case calltAddr5 t => exact decode_callt t tail
  case callfAddr11 f => exact congrArg (fun f => Except.ok (Instr.callfAddr11 f, tail)) BitVec.extractLsb'_append_extractLsb'
  -- A pair is written in its permuted code, a word in its two bytes.
  case shrwRp1N k n =>
    obtain ⟨q, rfl, hq⟩ := exists_pairOfQ k
    rw [hq]
    exact getShift_shiftByte 3#2 n q tail .rorcR1N .rorR1N .shrR1N .shrwRp1N
  case shlwRp1N k n =>
    obtain ⟨q, rfl, hq⟩ := exists_pairOfQ k
    rw [hq]
    exact getShift_shiftByte 3#2 n q tail .rolcR1N .rolR1N .shlR1N .shlwRp1N
  case muluwRp1 k | divuxRp1 k | ror4IndRp1 k | rol4IndRp1 k | callRp1 k | callIndRp1 k | brRp1 k | brIndRp1 k =>
    obtain ⟨q, rfl, hq⟩ := exists_pairOfQ k
    rw [hq]
    rfl
  case movwRp1Word k w | movwRp1Addr16 k w | movwAddr16Rp1 w k =>
    obtain ⟨q, rfl, hq⟩ := exists_pairOfQ k
    obtain ⟨l, h, rfl⟩ := exists_ofBytes w
    rw [hq, Machine.lo_ofBytes, Machine.hi_ofBytes]
    rfl
  case movAAddr16 w | movAddr16A w | movwSaddrpWord o w | addwAxWord w | addwSaddrpWord o w | addwSfrpWord o w |
      subwAxWord w | subwSaddrpWord o w | subwSfrpWord o w | cmpwAxWord w | cmpwSaddrpWord o w | cmpwSfrpWord o w |
      callAddr16 w | movwSpWord w | brAddr16 w | retcsAddr16 w =>
    obtain ⟨l, h, rfl⟩ := exists_ofBytes w
    rw [Machine.lo_ofBytes, Machine.hi_ofBytes]
    rfl
  -- An `sfr` offset shares its first byte with the forms that name SP and PSW; a well-formed one is none of theirs.
  case movwSfrpWord o w =>
    obtain ⟨l, h', rfl⟩ := exists_ofBytes w
    rw [Machine.lo_ofBytes, Machine.hi_ofBytes]
    obtain ⟨hsp, -, -⟩ := plainSfr_ne (Bool.and_eq_true_iff.1 h).2
    exact congrArg (fun i => Except.ok (i, tail)) (if_neg hsp)
  case movwAxSfrp o | movwSfrpAx o =>
    obtain ⟨hsp, -, -⟩ := plainSfr_ne (Bool.and_eq_true_iff.1 h).2
    exact congrArg (fun i => Except.ok (i, tail)) (if_neg hsp)
  case movSfrByte o b | movASfr o | movSfrA o =>
    obtain ⟨-, hpswl, hpswh⟩ := plainSfr_ne h
    exact congrArg (fun i => Except.ok (i, tail)) ((if_neg hpswl).trans (if_neg hpswh))
  -- Every other opcode is fixed, and its operands are whole bytes or the bit field already read.
  all_goals rfl

end Sys2Proof
end

section
/-!
Fetching an instruction whose bytes lie at pc, and the step that runs it (O5).
-/

namespace Sys2Proof.Machine

/-- Every instruction has one to five bytes (R120). -/
theorem encodedLength (i : Instr) : Laws.EncodedLength.Statement i := by
  cases i
  case movAMem m | movMemA m | xchAMem m | addAMem m | addMemA m | addcAMem m | addcMemA m | subAMem m | subMemA m |
      subcAMem m | subcMemA m | andAMem m | andMemA m | xorAMem m | xorMemA m | orAMem m | orMemA m | cmpAMem m |
      cmpMemA m =>
    cases m <;> exact Laws.EncodedLength.of_ble rfl
  all_goals exact Laws.EncodedLength.of_ble rfl

/-- Bytes that can each be fetched are what is fetched first. -/
theorem fetchBytes_append (s : State) (n : Nat) (l : List Byte) (a : Addr)
    (h : ∀ j, j < l.length → fetchByte (a + BitVec.ofNat 16 j) s = .ok (l.getD j 0#8)) :
    fetchBytes (l.length + n) a s =
      (l ++ (fetchBytes n (a + BitVec.ofNat 16 l.length) s).1, (fetchBytes n (a + BitVec.ofNat 16 l.length) s).2) := by
  induction l generalizing a with
  | nil => simp
  | cons b l ih =>
    have hb : fetchByte a s = .ok b := by simpa using h 0 (by simp)
    have hshift (j : Nat) : a + 1#16 + BitVec.ofNat 16 j = a + BitVec.ofNat 16 (j + 1) := by
      rw [BitVec.add_assoc, BitVec.ofNat_add, BitVec.add_comm 1#16]
    have hl := ih (a + 1#16) fun j hj => by
      rw [hshift]
      simpa using h (j + 1) (by simpa using hj)
    rw [hshift] at hl
    rw [List.length_cons, Nat.add_right_comm, fetchBytes, hb]
    simp only [hl, List.cons_append]

/-- Where the bytes of a well-formed instruction lie at pc, it is the one fetched. -/
theorem fetchInstr_of_bytes {s : State} {i : Instr} (hw : i.wellFormed = true)
    (hb : ∀ j, j < i.length → fetchByte (s.pc + BitVec.ofNat 16 j) s = .ok ((encode i).getD j 0#8)) :
    fetchInstr s = .ok (i, i.length) := by
  obtain ⟨-, hmax⟩ := encodedLength i
  have hfetch := fetchBytes_append s (5 - i.length) (encode i) s.pc hb
  rw [show (encode i).length + (5 - i.length) = 5 from Nat.add_sub_cancel' hmax] at hfetch
  simp only [fetchInstr, hfetch, decode_encode i _ hw, List.length_append, Nat.add_sub_cancel]
  rfl

theorem fetchedAfter_eq (r : Bool) (n : Nat) (s t : State) :
    fetchedAfter r n s t = if r = false ∧ t.pc = s.pc then n else 0 := by
  cases r <;> simp [fetchedAfter, ite_not]

/-- In RUN, with no event due, a step is the next instruction. -/
theorem step_eq_runInstr {s : State} (hr : s.run = .running) (he : boundary s = none) : step s = runInstr s := by
  simp only [step, due, hr, he]

/-- Settles O5: the bytes at pc are fetched and decode to the instruction, which `runInstr` executes. -/
theorem stepRunsTheInstructionAtPc : Obligations.StepRunsTheInstructionAtPc := by
  intro s i hw hr he hb
  have hfetch := fetchInstr_of_bytes hw hb
  rw [step_eq_runInstr hr he]
  refine ⟨fun t ht => ?_, fun f hf => ?_, fun r hx => ?_⟩
  · simp only [runInstr, hfetch, ht, afterStep, fetchedAfter_eq]
  · simp only [runInstr, hfetch, hf]
  · simp only [runInstr, hfetch, hx]

end Sys2Proof.Machine
end

section
/-!
Every step keeps the invariant of Safety.lean (O7, O8): first the invariant cell by cell and source by source, then each operation
that changes the state, then the instructions and what is served between them.
-/

namespace Sys2Proof.Machine

/-! ## The invariant taken apart -/

/-- What the invariant asks of the byte at an address: STBC says the run state, ISPR records 00H, PM2 and PM3 have their low nibble. -/
def cellLegal (r : RunState) (a : Nat) (v : Byte) : Prop :=
  (a = stbcAddr → standbyOf v = r) ∧ (a = 0xFF4A → v = 0#8) ∧ (a = 0xFF22 ∨ a = 0xFF23 → v &&& 0x0F#8 = 0x0F#8)

/-- What the invariant asks of the fields of a source. -/
def sourceLegal (q : Source) (c : SourceState) : Prop :=
  (c.macroservice = true → q.canMacro = true) ∧ (c.ended = true → c.request = true)

theorem Source.mem_all (q : Source) : q ∈ Source.all := by cases q <;> decide

theorem sourcesLegal_iff {t : Sources} : sourcesLegal t = true ↔ ∀ q, sourceLegal q (t.get q) := by
  simp only [sourcesLegal, sourceLegal, List.all_eq_true, Source.mem_all, forall_true_left, Bool.and_eq_true, Bool.or_eq_true,
    Bool.not_eq_true', ← Bool.not_eq_true, ← imp_iff_not_or]

theorem State.inv_iff {s : State} : s.inv = true ↔
    s.mem.wf = true ∧ (∀ a, cellLegal s.run a (s.byte a)) ∧ serviceAccepted s = true ∧ ∀ q, sourceLegal q (s.sources.get q) := by
  simp only [State.inv, Bool.and_eq_true, beq_iff_eq, sourcesLegal_iff]
  constructor
  · rintro ⟨⟨⟨⟨⟨⟨hwf, hstbc⟩, hispr⟩, hpm2⟩, hpm3⟩, hservice⟩, hsources⟩
    refine ⟨hwf, fun a => ⟨?_, ?_, ?_⟩, hservice, hsources⟩
    · rintro rfl; exact hstbc
    · rintro rfl; exact hispr
    · rintro (rfl | rfl)
      · exact hpm2
      · exact hpm3
  · rintro ⟨hwf, hcells, hservice, hsources⟩
    obtain ⟨hstbc, -, -⟩ := hcells stbcAddr
    obtain ⟨-, hispr, -⟩ := hcells 0xFF4A
    obtain ⟨-, -, hpm2⟩ := hcells 0xFF22
    obtain ⟨-, -, hpm3⟩ := hcells 0xFF23
    exact ⟨⟨⟨⟨⟨⟨hwf, hstbc rfl⟩, hispr rfl⟩, hpm2 (.inl rfl)⟩, hpm3 (.inr rfl)⟩, hservice⟩, hsources⟩

/-- The invariant speaks of memory, the run state, the sources and the service list alone. -/
theorem State.inv_of_eq {s t : State} (hs : s.inv = true) (hmem : t.mem = s.mem) (hrun : t.run = s.run)
    (hsources : t.sources = s.sources) (hservice : serviceAccepted t = true) : t.inv = true := by
  obtain ⟨hwf, hcells, -, hlegal⟩ := State.inv_iff.1 hs
  have hbyte (a : Nat) : t.byte a = s.byte a := by rw [State.byte, State.byte, hmem]
  exact State.inv_iff.2 ⟨hmem ▸ hwf, fun a => by rw [hbyte, hrun]; exact hcells a, hservice, fun q => by rw [hsources]; exact hlegal q⟩

theorem State.inv_cellLegal {s : State} (hs : s.inv = true) (a : Nat) : cellLegal s.run a (s.byte a) := by
  obtain ⟨-, hcells, -⟩ := State.inv_iff.1 hs
  exact hcells a

theorem State.inv_serviceAccepted {s : State} (hs : s.inv = true) : serviceAccepted s = true := by
  obtain ⟨-, -, hservice, -⟩ := State.inv_iff.1 hs
  exact hservice

theorem State.inv_sourceLegal {s : State} (hs : s.inv = true) (q : Source) : sourceLegal q (s.sources.get q) := by
  obtain ⟨-, -, -, hsources⟩ := State.inv_iff.1 hs
  exact hsources q

/-- Once an interrupt has been accepted anything may be in service. -/
theorem serviceAccepted_of_accepted {s : State} (h : s.accepted = true) : serviceAccepted s = true := by
  rw [serviceAccepted, h, Bool.true_or]

theorem serviceAccepted_iff {s : State} :
    serviceAccepted s = true ↔ s.accepted = true ∨ ∀ e ∈ s.service, e = .software := by
  simp [serviceAccepted]

/-- The marker of BRK and BRKCS may join the service list at any time. -/
theorem serviceAccepted_software {s : State} (hs : s.inv = true) :
    serviceAccepted { s with service := .software :: s.service } = true := by
  have h := serviceAccepted_iff.1 (State.inv_serviceAccepted hs)
  exact serviceAccepted_iff.2 (h.imp_right fun h => List.forall_mem_cons.2 ⟨rfl, h⟩)

/-- The innermost service may end at any time. -/
theorem serviceAccepted_endService {s : State} (hs : s.inv = true) :
    serviceAccepted { s with service := endService s.service } = true := by
  have h := serviceAccepted_iff.1 (State.inv_serviceAccepted hs)
  exact serviceAccepted_iff.2 (h.imp_right fun h e he => h e (List.mem_of_mem_tail he))

/-! ## Updates that the invariant does not see -/

@[simp] theorem State.inv_advance (s : State) (n : Nat) : (s.advance n).inv = s.inv := rfl
@[simp] theorem inv_idle (s : State) : (idle s).inv = s.inv := rfl

/-! ## Stores -/

/-- A store of a byte that is legal where it goes keeps the invariant. -/
theorem State.setByte_inv {s : State} {a : Nat} {v : Byte} (hs : s.inv = true) (ha : a < 0xFFFC) (hv : cellLegal s.run a v) :
    (s.setByte a v).inv = true := by
  obtain ⟨hwf, hcells, hservice, hsources⟩ := State.inv_iff.1 hs
  refine State.inv_iff.2 ⟨Memory.set_wf _ _ _ hwf ha, fun b => ?_, hservice, hsources⟩
  rw [State.byte_setByte s a b v hwf]
  split
  · next e => exact e ▸ hv
  · exact hcells b

/-- Outside FF22H to FF4AH every byte is legal. -/
theorem cellLegal_of_outside {r : RunState} {a : Nat} {v : Byte} (ha : a < 0xFF22 ∨ 0xFF4A < a) : cellLegal r a v := by
  refine ⟨fun e => ?_, fun e => ?_, fun e => ?_⟩
  · rw [e] at ha; exact absurd ha (by decide)
  · omega
  · omega

/-- A store below the SFR area keeps the invariant. -/
theorem State.setByte_low_inv {s : State} {a : Nat} (v : Byte) (hs : s.inv = true) (ha : a < 0xFF00) :
    (s.setByte a v).inv = true := State.setByte_inv hs (by omega) (cellLegal_of_outside (by omega))

/-- A byte whose low nibble is another's. -/
theorem low_nibble_join (v old : Byte) : (v &&& 0xF0#8 ||| old &&& 0x0F#8) &&& 0x0F#8 = old &&& 0x0F#8 := by
  refine BitVec.eq_of_getLsbD_eq fun i hi => ?_
  interval_cases i <;> simp

/-- What a register records when it is written is legal where the byte before was: STBC and the low nibbles do not change, and ISPR is
not written (R53, R54). -/
theorem cellAfter_legal {r : RunState} {a : Nat} {kind : SfrKind} {old : Byte} (v : Byte)
    (hk : sfrKind (a - 0xFF00) = some kind) (hispr : kind ≠ .inService) (hold : cellLegal r a old) :
    cellLegal r a (cellAfter kind old v) := by
  obtain ⟨hstbc, -, hnibble⟩ := hold
  refine ⟨fun e => ?_, fun e => ?_, fun e => ?_⟩
  · obtain rfl : SfrKind.guarded = kind := Option.some.inj (hk ▸ e ▸ rfl)
    exact hstbc e
  · exact absurd (Option.some.inj (hk ▸ e ▸ rfl) : SfrKind.inService = kind).symm hispr
  · obtain rfl : SfrKind.lowReadOnly = kind := by
      rcases e with e | e <;> exact Option.some.inj (hk ▸ e ▸ rfl)
    exact (low_nibble_join v old).trans (hnibble e)

/-- A store to STBC together with the run state it asks for keeps the invariant (R650). -/
theorem State.standby_inv {s : State} (v : Byte) (hs : s.inv = true) :
    { s.setByte stbcAddr v with run := standbyOf v }.inv = true := by
  obtain ⟨hwf, hcells, hservice, hsources⟩ := State.inv_iff.1 hs
  refine State.inv_iff.2 ⟨Memory.set_wf _ _ _ hwf (by decide), fun a => ?_, hservice, hsources⟩
  have hbyte := State.byte_setByte s stbcAddr a v hwf
  by_cases e : stbcAddr = a
  · subst e
    exact ⟨fun _ => congrArg standbyOf (hbyte.trans (if_pos rfl)), nofun, nofun⟩
  · obtain ⟨-, hrest⟩ := hcells a
    exact ⟨fun e' => absurd e'.symm e, (hbyte.trans (if_neg e)) ▸ hrest⟩

/-! ## The fields of the sources -/

/-- Legal fields for one source keep the invariant. -/
theorem State.setSource_inv {s : State} {q : Source} {c : SourceState} (hs : s.inv = true) (hc : sourceLegal q c) :
    { s with sources := s.sources.set q c }.inv = true := by
  obtain ⟨hwf, hcells, hservice, hsources⟩ := State.inv_iff.1 hs
  refine State.inv_iff.2 ⟨hwf, hcells, hservice, fun r => ?_⟩
  rw [Sources.get_set]
  split
  · next e => exact e ▸ hc
  · exact hsources r

/-- Writing a control register gives its source legal fields (R612). -/
theorem State.program_inv {s : State} (q : Source) (v : Byte) (hs : s.inv = true) : (s.program q v).inv = true := by
  have hc : sourceLegal q (q.programmed v) := ⟨fun h => (Bool.and_eq_true_iff.1 h).2, nofun⟩
  exact State.inv_of_eq (State.setSource_inv hs hc) rfl rfl rfl (State.inv_serviceAccepted hs :)

theorem clearRequest_inv {s : State} (q : Source) (hs : s.inv = true) : (clearRequest q s).inv = true :=
  State.setSource_inv hs ⟨(State.inv_sourceLegal hs q).1, nofun⟩

theorem endMacroservice_inv {s : State} (q : Source) (hs : s.inv = true) : (endMacroservice q s).inv = true :=
  State.setSource_inv hs ⟨fun h => (State.inv_sourceLegal hs q).1 (Bool.and_eq_true_iff.1 h).1, fun _ => rfl⟩

/-! ## Shared operations -/

theorem writeByte_inv {a : Addr} {v : Byte} {s t : State} (h : writeByte a v s = .ok t) (hs : s.inv = true) : t.inv = true := by
  rcases writeByte_ok h with ⟨-, rfl⟩ | ⟨-, rfl⟩ | ⟨-, rfl⟩ | ⟨-, rfl⟩ | ⟨-, rfl⟩ | ⟨ha, rfl⟩ | ⟨q, -, rfl⟩ |
    ⟨-, ha, kind, hk, -, hispr, rfl⟩
  · exact hs
  · exact hs
  · exact hs
  · exact hs
  · exact hs
  · exact State.setByte_low_inv v hs ha
  · have := q.control_range
    exact State.program_inv q v (State.setByte_inv hs (by omega) (cellLegal_of_outside (by omega)))
  · exact State.setByte_inv hs ha (cellAfter_legal v hk hispr (State.inv_cellLegal hs _))

theorem writeWord_inv {a : Addr} {w : Word} {s t : State} (h : writeWord a w s = .ok t) (hs : s.inv = true) : t.inv = true := by
  obtain ⟨u, hu, ht⟩ := writeWord_ok.1 h
  exact writeByte_inv ht (writeByte_inv hu hs)

theorem writeReg_inv (p : Psw) (i : RegNo) (v : Byte) {s : State} (hs : s.inv = true) : (writeReg p i v s).inv = true :=
  State.setByte_low_inv v hs (regAddr_range p.rbs i).2

theorem writePair_inv (p : Psw) (k : PairNo) (w : Word) {s : State} (hs : s.inv = true) : (writePair p k w s).inv = true :=
  writeReg_inv p _ _ (writeReg_inv p _ _ hs)

theorem ByteOperand.write_inv {o : ByteOperand} {v : Byte} {p : Psw} {s t : State} (h : o.write v p s = .ok t)
    (hs : s.inv = true) : t.inv = true := by
  cases o with
  | imm _ => cases h; exact hs
  | reg r => cases h; exact writeReg_inv p r v hs
  | saddr off => exact writeByte_inv h hs
  | sfr off => obtain ⟨a, -, hw⟩ := bind_eq_ok.1 h; exact writeByte_inv hw hs
  | mem a => exact writeByte_inv h hs
  | pswl => cases h; exact hs
  | pswh => cases h; exact hs

theorem WordOperand.write_inv {o : WordOperand} {w : Word} {p : Psw} {s t : State} (h : o.write w p s = .ok t)
    (hs : s.inv = true) : t.inv = true := by
  cases o with
  | imm _ => cases h; exact hs
  | pair k => cases h; exact writePair_inv p k w hs
  | saddrp off => obtain ⟨a, -, hw⟩ := bind_eq_ok.1 h; exact writeWord_inv hw hs
  | sfrp off => obtain ⟨a, -, hw⟩ := bind_eq_ok.1 h; exact writeWord_inv hw hs
  | mem a => exact writeWord_inv h hs
  | sp => cases h; exact hs

theorem bump_inv (p : Psw) (m : MemOperand) {s : State} (hs : s.inv = true) : (bump p m s).inv = true := by
  cases m
  case deInc | hlInc | deDec | hlDec => exact writePair_inv p _ _ hs
  all_goals exact hs

theorem stringTail_inv (p : Psw) (block up ended : Bool) {s : State} (hs : s.inv = true) :
    (stringTail p block up ended s).inv = true := by
  have hde : (stepPair p pairDe up s).inv = true := writePair_inv p _ _ hs
  have hhl : (if block then stepPair p pairHl up (stepPair p pairDe up s) else stepPair p pairDe up s).inv = true := by
    split
    · exact writePair_inv p _ _ hde
    · exact hde
  simp only [stringTail, apply_ite State.inv, State.inv_advance, ite_self]
  exact writeReg_inv p _ _ hhl

theorem pushAt_inv {a : Addr} {w : Word} {s t : State} (h : pushAt a w s = .ok t) (hs : s.inv = true) : t.inv = true := by
  obtain ⟨u, hu, ht⟩ := pushAt_ok.1 h
  exact writeByte_inv ht (writeByte_inv hu hs)

theorem push_inv {w : Word} {s t : State} (h : push w s = .ok t) (hs : s.inv = true) : t.inv = true := by
  obtain ⟨u, v, hu, hv, rfl⟩ := push_ok.1 h
  exact (writeByte_inv hv (writeByte_inv hu hs) :)

theorem AluOp.eq_cmp_of_not_stores {op : AluOp} (h : ¬op.stores = true) : op = .cmp := by
  cases op
  case cmp => rfl
  all_goals exact absurd rfl h

theorem WordOp.eq_cmpw_of_not_stores {op : WordOp} (h : ¬op.stores = true) : op = .cmpw := by
  cases op
  case cmpw => rfl
  all_goals exact absurd rfl h

/-! ## Meanings: each operation that answers a next state keeps the invariant -/

/-- An operation that answers a state answers one with the invariant. -/
def Keeps (r : Except Stop State) : Prop := ∀ t, r = .ok t → t.inv = true

theorem Keeps.bind {α : Type} {x : Except Stop α} {f : α → Except Stop State} (h : ∀ a, x = .ok a → Keeps (f a)) :
    Keeps (x >>= f) := fun t ht => by
  obtain ⟨a, ha, hf⟩ := bind_eq_ok.1 ht
  exact h a ha t hf

theorem keeps_ok {s : State} : Keeps (.ok s) ↔ s.inv = true :=
  ⟨fun h => h s rfl, fun h _ e => Except.ok.inj e ▸ h⟩

/-- An instruction that finishes with such an operation keeps the invariant. -/
theorem Keeps.finish {r : Except Stop State} {t : State} (h : Keeps r) (ht : Machine.finish r = .next t) : t.inv = true :=
  h t ((finish_eq_next r t).1 ht)

section

variable {s : State} (hs : s.inv = true)
include hs

theorem move_keeps (n : Nat) (dst src : ByteOperand) : Keeps (move n dst src s) := fun t h => by
  obtain ⟨v, u, -, hu, rfl⟩ := move_ok.1 h
  exact (dst.write_inv hu hs :)

theorem moveWord_keeps (n : Nat) (dst src : WordOperand) : Keeps (moveWord n dst src s) := fun t h => by
  obtain ⟨w, u, -, hu, rfl⟩ := moveWord_ok.1 h
  exact (dst.write_inv hu hs :)

theorem exchange_keeps (n : Nat) (dst src : ByteOperand) : Keeps (exchange n dst src s) := fun t h => by
  obtain ⟨a, b, u, v, -, -, hu, hv, rfl⟩ := exchange_ok.1 h
  exact (dst.write_inv hv (src.write_inv hu hs) :)

theorem exchangeWord_keeps (n : Nat) (dst src : WordOperand) : Keeps (exchangeWord n dst src s) := fun t h => by
  obtain ⟨a, b, u, v, -, -, hu, hv, rfl⟩ := exchangeWord_ok.1 h
  exact (dst.write_inv hv (src.write_inv hu hs) :)

theorem loadMem_keeps (n : Nat) (m : MemOperand) : Keeps (loadMem n m s) := fun t h => by
  obtain ⟨v, -, rfl⟩ := loadMem_ok.1 h
  exact bump_inv _ m (writeReg_inv _ _ v hs)

theorem storeMem_keeps (n : Nat) (m : MemOperand) : Keeps (storeMem n m s) := fun t h => by
  obtain ⟨u, hu, rfl⟩ := storeMem_ok.1 h
  exact bump_inv _ m (writeByte_inv hu hs)

theorem exchangeMem_keeps (n : Nat) (m : MemOperand) : Keeps (exchangeMem n m s) := fun t h => by
  obtain ⟨v, u, -, hu, rfl⟩ := exchangeMem_ok.1 h
  exact bump_inv _ m (writeReg_inv _ _ v (writeByte_inv hu hs))

theorem loadIndirect_keeps (off : Byte) : Keeps (loadIndirect off s) := .bind fun _ _ => move_keeps hs _ _ _

theorem storeIndirect_keeps (off : Byte) : Keeps (storeIndirect off s) := .bind fun _ _ => move_keeps hs _ _ _

theorem exchangeIndirect_keeps (off : Byte) : Keeps (exchangeIndirect off s) := .bind fun _ _ => exchange_keeps hs _ _ _

theorem alu8_keeps (op : AluOp) (dst src : ByteOperand) : Keeps (alu8 op dst src s) := fun t h => by
  by_cases hop : op.stores = true
  · obtain ⟨b, a, u, -, -, hu, rfl⟩ := (alu8_ok hop).1 h
    exact (dst.write_inv hu hs :)
  · obtain rfl := AluOp.eq_cmp_of_not_stores hop
    obtain ⟨b, a, -, -, rfl⟩ := alu8_cmp_ok.1 h
    exact hs

theorem alu8Step_keeps (op : AluOp) (n : Nat) (dst src : ByteOperand) : Keeps (alu8Step op n dst src s) := fun t h => by
  obtain ⟨u, hu, rfl⟩ := alu8Step_ok.1 h
  exact alu8_keeps hs op dst src u hu

theorem alu8Mem_keeps (op : AluOp) (toMem : Bool) (m : MemOperand) : Keeps (alu8Mem op toMem m s) := fun t h => by
  obtain ⟨u, hu, rfl⟩ := alu8Mem_ok.1 h
  cases toMem
  · exact bump_inv _ m (alu8_keeps hs op _ _ u hu)
  · exact bump_inv _ m (alu8_keeps hs op _ _ u hu)

theorem alu16Step_keeps (op : WordOp) (n : Nat) (dst src : WordOperand) : Keeps (alu16Step op n dst src s) := fun t h => by
  by_cases hop : op.stores = true
  · obtain ⟨b, a, u, -, -, hu, rfl⟩ := (alu16Step_ok hop).1 h
    exact (dst.write_inv hu hs :)
  · obtain rfl := WordOp.eq_cmpw_of_not_stores hop
    obtain ⟨b, a, -, -, rfl⟩ := alu16Step_cmpw_ok.1 h
    exact hs

theorem stepByte_keeps (n : Nat) (up : Bool) (o : ByteOperand) : Keeps (stepByte n up o s) := fun t h => by
  obtain ⟨v, u, -, hu, rfl⟩ := stepByte_ok.1 h
  exact (o.write_inv hu hs :)

theorem stepWord_keeps (n : Nat) (up : Bool) (o : WordOperand) : Keeps (stepWord n up o s) := fun t h => by
  obtain ⟨w, u, -, hu, rfl⟩ := stepWord_ok.1 h
  exact (o.write_inv hu hs :)

theorem digitRotate_keeps (newByte newAcc : Byte → Byte → Byte) (k : PairNo) :
    Keeps (digitRotate newByte newAcc k s) := fun t h => by
  obtain ⟨m, u, -, hu, rfl⟩ := digitRotate_ok.1 h
  exact writeReg_inv _ _ _ (writeByte_inv hu hs)

theorem toCarry_keeps (f : Bool → Bool → Bool) (n : Nat) (o : ByteOperand) (bit : BitVec 3) : Keeps (toCarry f n o bit s) :=
  .bind fun _ _ => keeps_ok.2 hs

theorem toBit_keeps (f : Bool → Bool → Bool) (n : Nat) (o : ByteOperand) (bit : BitVec 3) :
    Keeps (toBit f n o bit s) := fun t h => by
  obtain ⟨v, u, -, hu, rfl⟩ := toBit_ok.1 h
  exact (o.write_inv hu hs :)

theorem testBit_keeps (sense : Bool) (n : Nat) (o : ByteOperand) (bit : BitVec 3) (j : Byte) : Keeps (testBit sense n o bit j s) :=
  .bind fun _ _ => keeps_ok.2 hs

theorem testAndWrite_keeps (sense : Bool) (n : Nat) (o : ByteOperand) (bit : BitVec 3) (j : Byte) :
    Keeps (testAndWrite sense n o bit j s) := fun t h => by
  obtain ⟨v, -, ⟨-, u, hu, rfl⟩ | ⟨-, rfl⟩⟩ := testAndWrite_ok.1 h
  · exact (o.write_inv hu hs :)
  · exact hs

theorem countDown_keeps (n : Nat) (o : ByteOperand) (j : Byte) : Keeps (countDown n o j s) := fun t h => by
  obtain ⟨v, u, -, hu, rfl⟩ := countDown_ok.1 h
  exact (o.write_inv hu hs :)

theorem call_keeps (n : Nat) (target : Addr) : Keeps (call n target s) := fun t h => by
  obtain ⟨u, hu, rfl⟩ := call_ok.1 h
  exact (push_inv hu hs :)

theorem callTable_keeps (t5 : BitVec 5) : Keeps (callTable t5 s) := fun t h => by
  obtain ⟨u, target, hu, -, rfl⟩ := callTable_ok.1 h
  exact (push_inv hu hs :)

theorem returnVector_keeps : Keeps (returnVector s) := fun t h => by
  obtain ⟨target, low, high, -, -, -, rfl⟩ := returnVector_ok.1 h
  exact State.inv_of_eq hs rfl rfl rfl (serviceAccepted_endService hs)

theorem moveMany_keeps (up : Bool) : Keeps (moveMany up s) := fun t h => by
  obtain ⟨u, hu, rfl⟩ := moveMany_ok.1 h
  exact stringTail_inv _ _ _ _ (writeByte_inv hu hs)

theorem moveBlock_keeps (up : Bool) : Keeps (moveBlock up s) := fun t h => by
  obtain ⟨v, u, -, hu, rfl⟩ := moveBlock_ok.1 h
  exact stringTail_inv _ _ _ _ (writeByte_inv hu hs)

theorem exchangeMany_keeps (up : Bool) : Keeps (exchangeMany up s) := fun t h => by
  obtain ⟨x, u, -, hu, rfl⟩ := exchangeMany_ok.1 h
  exact stringTail_inv _ _ _ _ (writeReg_inv _ _ _ (writeByte_inv hu hs))

theorem exchangeBlock_keeps (up : Bool) : Keeps (exchangeBlock up s) := fun t h => by
  obtain ⟨x, y, u, v, -, -, hu, hv, rfl⟩ := exchangeBlock_ok.1 h
  exact stringTail_inv _ _ _ _ (writeByte_inv hv (writeByte_inv hu hs))

theorem compareMany_keeps (ends : Psw → Bool) (up : Bool) : Keeps (compareMany ends up s) := fun t h => by
  obtain ⟨a, -, rfl⟩ := compareMany_ok.1 h
  exact stringTail_inv _ _ _ _ hs

theorem compareBlock_keeps (ends : Psw → Bool) (up : Bool) : Keeps (compareBlock ends up s) := fun t h => by
  obtain ⟨a, b, -, -, rfl⟩ := compareBlock_ok.1 h
  exact stringTail_inv _ _ _ _ hs

/-! ## Meanings that always answer a next state -/

theorem mulu_inv (r1 : Reg8) : (mulu r1 s).inv = true := writePair_inv _ _ _ hs

theorem divuw_inv (r1 : Reg8) : (divuw r1 s).inv = true := by
  simp only [divuw, State.inv_advance]
  split_ifs
  all_goals exact writeReg_inv _ _ _ (writePair_inv _ _ _ hs)

theorem muluw_inv (k : PairNo) : (muluw k s).inv = true := by
  simp only [muluw, State.inv_advance]
  split_ifs
  · exact writePair_inv _ _ _ hs
  · exact writePair_inv _ _ _ (writePair_inv _ _ _ hs)

theorem divux_inv (k : PairNo) : (divux k s).inv = true := by
  simp only [divux, State.inv_advance]
  split_ifs
  all_goals exact writePair_inv _ _ _ (writePair_inv _ _ _ (writePair_inv _ _ _ hs))

theorem rotate_inv (f : Byte × Bool → Byte × Bool) (r1 : Reg8) (n : BitVec 3) : (rotate f r1 n s).inv = true :=
  writeReg_inv _ _ _ hs

theorem shift_inv (f : Byte × Bool → Byte × Bool) (r1 : Reg8) (n : BitVec 3) : (shift f r1 n s).inv = true :=
  writeReg_inv _ _ _ hs

theorem shiftPair_inv (f : Word × Bool → Word × Bool) (k : PairNo) (n : BitVec 3) : (shiftPair f k n s).inv = true :=
  writePair_inv _ _ _ hs

/-- A context-switch entry changes R4 to R7 of the new bank; it keeps the invariant where the mark may be in service. -/
theorem enterBank_inv (bank : BitVec 3) (ret : Addr) (mark : Service)
    (hmark : serviceAccepted { s with service := mark :: s.service } = true) : (enterBank bank ret mark s).inv = true :=
  State.inv_of_eq (writePair_inv _ 3#3 s.psw.word (writePair_inv { s.psw with rbs := bank, rss := false, ie := false } 2#3 ret hs))
    rfl rfl rfl hmark

theorem returnBank_inv (rearm : Addr) : (returnBank rearm s).inv = true :=
  State.inv_of_eq (writePair_inv s.psw 2#3 rearm hs) rfl rfl rfl (serviceAccepted_endService hs :)

end

/-! ## Items in turn on a stack -/

theorem pushPairs_keeps (p : Psw) (l : List PairNo) {s : State} (hs : s.inv = true) : Keeps (pushPairs p l s) := by
  induction l generalizing s with
  | nil => exact keeps_ok.2 hs
  | cons k l ih => exact .bind fun u hu => ih (push_inv hu hs)

theorem popPairs_keeps (p : Psw) (l : List PairNo) {s : State} (hs : s.inv = true) : Keeps (popPairs p l s) := by
  induction l generalizing s with
  | nil => exact keeps_ok.2 hs
  | cons k l ih => exact .bind fun w _ => ih (writePair_inv p k w hs)

theorem pushUserItems_keeps (p : Psw) (l : List PairNo) {s : State} (hs : s.inv = true) : Keeps (pushUserItems p l s) := by
  induction l generalizing s with
  | nil => exact keeps_ok.2 hs
  | cons k l ih => exact .bind fun u hu => ih (writePair_inv p pairUp _ (pushAt_inv hu hs))

theorem popUserItems_keeps (p : Psw) (l : List PairNo) {s : State} (hs : s.inv = true) : Keeps (popUserItems p l s) := by
  induction l generalizing s with
  | nil => exact keeps_ok.2 hs
  | cons k l ih =>
    refine .bind fun w _ => ih (writePair_inv p pairUp _ ?_)
    split
    · exact hs
    · exact writePair_inv p k w hs

/-! ## Instructions -/

/-- BRK: PSW and the return address are stored, and the marker of a software entry joins the service list. -/
theorem enterVector_software_keeps (vector ret : Addr) {s : State} (hs : s.inv = true) :
    Keeps (enterVector vector ret .software s) := fun t h => by
  obtain ⟨u, v, target, hu, hv, -, rfl⟩ := enterVector_ok.1 h
  have hinv := pushAt_inv hv (pushAt_inv hu hs)
  exact State.inv_of_eq hinv rfl rfl rfl (serviceAccepted_software hinv :)

/-- `MOV STBC` stores nothing, or a byte with the run state it asks for. -/
theorem execMovStbcByte_inv (check byte : Byte) {s t : State} (hs : s.inv = true)
    (h : execMovStbcByte check byte s = .next t) : t.inv = true := by
  cases h
  split
  · next e =>
    rw [guardedWrite, if_pos e]
    exact State.inv_of_eq (State.standby_inv byte hs) rfl rfl rfl (State.inv_serviceAccepted hs :)
  · next e =>
    rw [guardedWrite, if_neg e]
    exact hs

theorem execMovWdmByte_inv (check byte : Byte) {s t : State} (hs : s.inv = true)
    (h : execMovWdmByte check byte s = .next t) : t.inv = true := by
  have hg : (guardedWrite wdmAddr check byte s).inv = true := by
    unfold guardedWrite
    split
    · exact State.setByte_inv hs (by decide) ⟨nofun, nofun, nofun⟩
    · exact hs
  cases h
  split
  · exact State.inv_of_eq hg rfl rfl rfl (State.inv_serviceAccepted hg :)
  · exact hg

/-- Every instruction keeps the invariant. -/
theorem exec_inv (i : Instr) {s t : State} (hs : s.inv = true) (h : exec i s = .next t) : t.inv = true := by
  unfold exec at h
  cases i
  -- Data transfer
  case movR1Byte | movSaddrByte | movSfrByte | movRR1 | movAR1 | movASaddr | movSaddrA | movASfr | movSfrA | movPswlByte |
      movPswhByte | movPswlA | movPswhA | movAPswl | movAPswh | movSaddrSaddr | movAAddr16 | movAddr16A =>
    exact (move_keeps hs _ _ _).finish h
  case movwRp1Word | movwSaddrpWord | movwSfrpWord | movwRpRp1 | movwAxSaddrp | movwSaddrpAx | movwSaddrpSaddrp | movwAxSfrp |
      movwSfrpAx | movwRp1Addr16 | movwAddr16Rp1 | movwSpWord | movwSpAx | movwAxSp =>
    exact (moveWord_keeps hs _ _ _).finish h
  case xchAR1 | xchRR1 | xchASaddr | xchASfr | xchSaddrSaddr => exact (exchange_keeps hs _ _ _).finish h
  case xchwAxSaddrp | xchwAxSfrp | xchwSaddrpSaddrp | xchwRpRp1 => exact (exchangeWord_keeps hs _ _ _).finish h
  case movAMem1 | movAMem => exact (loadMem_keeps hs _ _).finish h
  case movMemA1 | movMemA => exact (storeMem_keeps hs _ _).finish h
  case xchAMem => exact (exchangeMem_keeps hs _ _).finish h
  case movAIndSaddrp => exact (loadIndirect_keeps hs _).finish h
  case movIndSaddrpA => exact (storeIndirect_keeps hs _).finish h
  case xchAIndSaddrp => exact (exchangeIndirect_keeps hs _).finish h
  -- Arithmetic, shifts, bits
  case addAByte | addSaddrByte | addSfrByte | addRR1 | addASaddr | addASfr | addSaddrSaddr | addcAByte | addcSaddrByte |
      addcSfrByte | addcRR1 | addcASaddr | addcASfr | addcSaddrSaddr | subAByte | subSaddrByte | subSfrByte | subRR1 |
      subASaddr | subASfr | subSaddrSaddr | subcAByte | subcSaddrByte | subcSfrByte | subcRR1 | subcASaddr | subcASfr |
      subcSaddrSaddr | andAByte | andSaddrByte | andSfrByte | andRR1 | andASaddr | andASfr | andSaddrSaddr | xorAByte |
      xorSaddrByte | xorSfrByte | xorRR1 | xorASaddr | xorASfr | xorSaddrSaddr | orAByte | orSaddrByte | orSfrByte | orRR1 |
      orASaddr | orASfr | orSaddrSaddr | cmpAByte | cmpSaddrByte | cmpSfrByte | cmpRR1 | cmpASaddr | cmpASfr | cmpSaddrSaddr
      =>
    exact (alu8Step_keeps hs _ _ _ _).finish h
  case addAMem | addMemA | addcAMem | addcMemA | subAMem | subMemA | subcAMem | subcMemA | andAMem | andMemA | xorAMem |
      xorMemA | orAMem | orMemA | cmpAMem | cmpMemA =>
    exact (alu8Mem_keeps hs _ _ _).finish h
  case addwAxWord | addwSaddrpWord | addwSfrpWord | addwRpRp1 | addwAxSaddrp | addwAxSfrp | addwSaddrpSaddrp | subwAxWord |
      subwSaddrpWord | subwSfrpWord | subwRpRp1 | subwAxSaddrp | subwAxSfrp | subwSaddrpSaddrp | cmpwAxWord | cmpwSaddrpWord |
      cmpwSfrpWord | cmpwRpRp1 | cmpwAxSaddrp | cmpwAxSfrp | cmpwSaddrpSaddrp =>
    exact (alu16Step_keeps hs _ _ _ _).finish h
  case incR1 | incSaddr | decR1 | decSaddr => exact (stepByte_keeps hs _ _ _).finish h
  case incwRp2 | incwSaddrp | decwRp2 | decwSaddrp | incwSp | decwSp => exact (stepWord_keeps hs _ _ _).finish h
  case ror4IndRp1 | rol4IndRp1 => exact (digitRotate_keeps hs _ _ _).finish h
  case muluR1 => cases h; exact mulu_inv hs _
  case divuwR1 => cases h; exact divuw_inv hs _
  case muluwRp1 => cases h; exact muluw_inv hs _
  case divuxRp1 => cases h; exact divux_inv hs _
  case rorR1N | rolR1N | rorcR1N | rolcR1N => cases h; exact rotate_inv hs _ _ _
  case shrR1N | shlR1N => cases h; exact shift_inv hs _ _ _
  case shrwRp1N | shlwRp1N => cases h; exact shiftPair_inv hs _ _ _
  case adj4 => cases h; exact writeReg_inv _ _ _ hs
  case mov1CySaddrBit | mov1CySfrBit | mov1CyABit | mov1CyXBit | mov1CyPswhBit | mov1CyPswlBit | and1CySaddrBit |
      and1CyNotSaddrBit | and1CySfrBit | and1CyNotSfrBit | and1CyABit | and1CyNotABit | and1CyXBit | and1CyNotXBit |
      and1CyPswhBit | and1CyNotPswhBit | and1CyPswlBit | and1CyNotPswlBit | or1CySaddrBit | or1CyNotSaddrBit | or1CySfrBit |
      or1CyNotSfrBit | or1CyABit | or1CyNotABit | or1CyXBit | or1CyNotXBit | or1CyPswhBit | or1CyNotPswhBit | or1CyPswlBit |
      or1CyNotPswlBit | xor1CySaddrBit | xor1CySfrBit | xor1CyABit | xor1CyXBit | xor1CyPswhBit | xor1CyPswlBit =>
    exact (toCarry_keeps hs _ _ _ _).finish h
  case mov1SaddrBitCy | mov1SfrBitCy | mov1ABitCy | mov1XBitCy | mov1PswhBitCy | mov1PswlBitCy | set1SaddrBit | set1SfrBit |
      set1ABit | set1XBit | set1PswhBit | set1PswlBit | clr1SaddrBit | clr1SfrBit | clr1ABit | clr1XBit | clr1PswhBit |
      clr1PswlBit | not1SaddrBit | not1SfrBit | not1ABit | not1XBit | not1PswhBit | not1PswlBit =>
    exact (toBit_keeps hs _ _ _ _).finish h
  -- Branches, calls, returns, the stack
  case btSaddrBitRel | btSfrBitRel | btABitRel | btXBitRel | btPswhBitRel | btPswlBitRel | bfSaddrBitRel | bfSfrBitRel |
      bfABitRel | bfXBitRel | bfPswhBitRel | bfPswlBitRel =>
    exact (testBit_keeps hs _ _ _ _ _).finish h
  case btclrSaddrBitRel | btclrSfrBitRel | btclrABitRel | btclrXBitRel | btclrPswhBitRel | btclrPswlBitRel | bfsetSaddrBitRel
      | bfsetSfrBitRel | bfsetABitRel | bfsetXBitRel | bfsetPswhBitRel | bfsetPswlBitRel =>
    exact (testAndWrite_keeps hs _ _ _ _ _).finish h
  case dbnzR2Rel | dbnzSaddrRel => exact (countDown_keeps hs _ _ _).finish h
  case callAddr16 | callfAddr11 | callRp1 => exact (call_keeps hs _ _).finish h
  case calltAddr5 => exact (callTable_keeps hs _).finish h
  case brIndRp1 | ret | popPsw =>
    refine Keeps.finish ?_ h
    exact .bind fun _ _ => keeps_ok.2 hs
  case callIndRp1 =>
    refine Keeps.finish ?_ h
    exact .bind fun _ _ => call_keeps hs _ _
  case pushPsw =>
    refine Keeps.finish ?_ h
    exact .bind fun _ hu => keeps_ok.2 (push_inv hu hs :)
  case pushPost =>
    refine Keeps.finish ?_ h
    exact .bind fun u hu => keeps_ok.2 (pushPairs_keeps _ _ hs u hu :)
  case pushuPost =>
    refine Keeps.finish ?_ h
    exact .bind fun u hu => keeps_ok.2 (pushUserItems_keeps _ _ hs u hu :)
  case popPost =>
    refine Keeps.finish ?_ h
    exact .bind fun u hu => keeps_ok.2 (popPairs_keeps _ _ hs u hu :)
  case popuPost =>
    refine Keeps.finish ?_ h
    exact .bind fun u hu => keeps_ok.2 (popUserItems_keeps _ _ hs u hu :)
  case brk => exact (enterVector_software_keeps _ _ hs).finish h
  case reti => exact (returnVector_keeps hs).finish h
  case brkcsRbn n => cases h; exact enterBank_inv hs _ _ _ (serviceAccepted_software hs)
  case retcsAddr16 w => cases h; exact returnBank_inv hs w
  -- Strings
  case movmInc | movmDec => exact (moveMany_keeps hs _).finish h
  case movbkInc | movbkDec => exact (moveBlock_keeps hs _).finish h
  case xchmInc | xchmDec => exact (exchangeMany_keeps hs _).finish h
  case xchbkInc | xchbkDec => exact (exchangeBlock_keeps hs _).finish h
  case cmpmeInc | cmpmeDec | cmpmneInc | cmpmneDec | cmpmcInc | cmpmcDec | cmpmncInc | cmpmncDec =>
    exact (compareMany_keeps hs _ _).finish h
  case cmpbkeInc | cmpbkeDec | cmpbkneInc | cmpbkneDec | cmpbkcInc | cmpbkcDec | cmpbkncInc | cmpbkncDec =>
    exact (compareBlock_keeps hs _ _).finish h
  -- Protected writes
  case movStbcByte check byte => exact execMovStbcByte_inv check byte hs h
  case movWdmByte check byte => exact execMovWdmByte_inv check byte hs h
  -- The rest changes pc and PSW only.
  all_goals cases h; exact hs

/-! ## What is served between instructions -/

/-- The state of a vectored entry keeps the invariant once the acceptance is recorded (R57). -/
theorem enterVector_accepted_inv {vector ret : Addr} {mark : Service} {s t : State} (h : enterVector vector ret mark s = .ok t)
    (hs : s.inv = true) : { t with accepted := true }.inv = true := by
  obtain ⟨u, v, target, hu, hv, -, rfl⟩ := enterVector_ok.1 h
  exact State.inv_of_eq (pushAt_inv hv (pushAt_inv hu hs)) rfl rfl rfl (serviceAccepted_of_accepted rfl)

theorem recordAt_lt (off : Byte) : recordAt off < 0xFF00 := by
  unfold recordAt
  omega

theorem moveDatum_keeps (ch : MacroChannel) {s : State} (hs : s.inv = true) : Keeps (moveDatum ch s) := fun t h => by
  have h := moveDatum_ok.1 h
  dsimp only at h
  split at h
  · obtain ⟨w, -, hw⟩ := h
    exact writeWord_inv hw hs
  · obtain ⟨v, -, hv⟩ := h
    exact writeByte_inv hv hs

theorem setRecordAddress_inv (ch : MacroChannel) (a : Addr) {s : State} (hs : s.inv = true) :
    (setRecordAddress ch a s).inv = true :=
  State.setByte_low_inv _ (State.setByte_low_inv _ hs (recordAt_lt _)) (recordAt_lt _)

theorem transfer_inv {ch : MacroChannel} {s t : State} {count : Byte} (h : transfer ch s = .ok (t, count)) (hs : s.inv = true) :
    t.inv = true := by
  obtain ⟨u, v, hu, hv, -, rfl⟩ := transfer_ok.1 h
  have hinv := moveDatum_keeps ch hs u hu
  refine State.setByte_low_inv _ ?_ (recordAt_lt _)
  rw [hv]
  split
  · exact setRecordAddress_inv ch _ hinv
  · exact hinv

theorem serveMacro_keeps (q : Source) {s : State} (hs : s.inv = true) : Keeps (serveMacro q s) := by
  unfold serveMacro
  split
  · exact fun _ h => nomatch h
  · refine .bind fun r hr => keeps_ok.2 ?_
    have hinv := transfer_inv hr hs
    split
    · exact endMacroservice_inv q hinv
    · exact clearRequest_inv q hinv

/-- Serving an accepted event keeps the invariant. -/
theorem serve_keeps (e : Event) {s : State} (hs : s.inv = true) : Keeps (serve e s) := by
  cases e with
  | nmi | wdt =>
    refine .bind fun t ht => keeps_ok.2 ?_
    exact State.inv_of_eq (enterVector_accepted_inv ht hs) rfl rfl rfl (serviceAccepted_of_accepted rfl)
  | maskable q =>
    simp only [serve]
    split
    · refine .bind fun t ht => keeps_ok.2 ?_
      exact State.inv_of_eq (serveMacro_keeps q hs t ht) rfl rfl rfl (serviceAccepted_of_accepted rfl)
    · have hclear := clearRequest_inv q hs
      refine keeps_ok.2 (State.inv_of_eq (writePair_inv _ 3#3 s.psw.word (writePair_inv _ 2#3 s.pc hclear)) rfl rfl rfl ?_)
      exact serviceAccepted_of_accepted rfl
    · refine .bind fun t ht => keeps_ok.2 ?_
      exact State.inv_of_eq (clearRequest_inv q (enterVector_accepted_inv ht hs)) rfl rfl rfl (serviceAccepted_of_accepted rfl)

/-- The two request bits of STBC at 0 ask for RUN. -/
theorem standbyOf_cleared (v : Byte) : standbyOf (v &&& 0xFC#8) = .running := by
  simp [standbyOf]

theorem wake_inv {s : State} (hs : s.inv = true) : (wake s).inv = true :=
  State.inv_of_eq (State.standby_inv (s.byte stbcAddr &&& 0xFC#8) hs) rfl (standbyOf_cleared _).symm rfl
    (State.inv_serviceAccepted hs :)

theorem rouse_inv (r : RunState) {t : State} (ht : t.inv = true) : (rouse r t).inv = true := by
  unfold rouse
  split
  · exact wake_inv ht
  · exact ht

/-! ## What a step can do -/

/-- Where an event is due the step serves it (R615, R650, R651). -/
theorem step_of_due {s : State} {e : Event} (h : due s = some e) : step s = finish ((serve e s).map fun t =>
    afterStep (!e.transfers s) (if e.transfers s then s.fetched else 0) s (rouse s.run t)) := by
  simp only [step, h]

theorem runInstr_next {s t : State} (h : runInstr s = .next t) :
    ∃ i n u, fetchInstr s = .ok (i, n) ∧ exec i s = .next u ∧ t = afterStep (refetches i s) n s u := by
  unfold runInstr at h
  split at h
  · exact absurd ((finish_eq_next _ _).1 h) nofun
  · next i n hi =>
    split at h
    · next u hu => exact ⟨i, n, u, hi, hu, (Host.Outcome.next.inj h).symm⟩
    · next hn => exact absurd h (hn t)

/-- A step that answers a next state has served what was due, executed an instruction, woken up or waited. -/
theorem step_next {s t : State} (h : step s = .next t) :
    (∃ e u, due s = some e ∧ serve e s = .ok u ∧
      t = afterStep (!e.transfers s) (if e.transfers s then s.fetched else 0) s (rouse s.run u)) ∨
    (due s = none ∧ ∃ i n u, fetchInstr s = .ok (i, n) ∧ exec i s = .next u ∧ t = afterStep (refetches i s) n s u) ∨
    (due s = none ∧ t = idle (if wakes s then wake s else s)) := by
  cases hd : due s with
  | some e =>
    rw [step_of_due hd] at h
    cases hu : serve e s with
    | error x => rw [hu] at h; exact absurd ((finish_eq_next _ _).1 h) nofun
    | ok u => rw [hu] at h; exact .inl ⟨e, u, rfl, hu, (Host.Outcome.next.inj h).symm⟩
  | none =>
    simp only [step, hd] at h
    refine .inr ?_
    split at h
    · exact .inl ⟨rfl, runInstr_next h⟩
    · exact .inr ⟨rfl, (Host.Outcome.next.inj h).symm⟩
    · exact .inr ⟨rfl, (Host.Outcome.next.inj h).symm⟩

/-! ## The obligations -/

/-- Settles O8: the state after reset is one literal. -/
theorem resetMeetsTheInvariant : Obligations.ResetMeetsTheInvariant := by
  unfold Obligations.ResetMeetsTheInvariant
  decide

/-- Settles O7: a step serves a request, executes an instruction, wakes up or waits, and each keeps the invariant. -/
theorem stepKeepsTheInvariant : Obligations.StepKeepsTheInvariant := by
  intro s t hs h
  rcases step_next h with ⟨e, u, -, hu, rfl⟩ | ⟨-, i, n, u, -, hu, rfl⟩ | ⟨-, rfl⟩
  · exact rouse_inv s.run (serve_keeps e hs u hu)
  · exact (exec_inv i hs hu :)
  · rw [inv_idle]
    split
    · exact wake_inv hs
    · exact hs

end Sys2Proof.Machine
end

section
/-!
Registers, the bytes of the PSW, functional names and short addresses (O12, O13, O15).
-/

namespace Sys2Proof.Machine

/-! ## Registers as bytes of the RAM (R22, R26) -/

/-- Registers of all banks lie at different addresses. -/
theorem regAddr_eq_iff {b c : BitVec 3} {i j : RegNo} : regAddr b i = regAddr c j ↔ b = c ∧ i = j := by
  constructor
  · intro h
    unfold regAddr bankBase at h
    exact ⟨BitVec.eq_of_toNat_eq (by omega), BitVec.eq_of_toNat_eq (by omega)⟩
  · rintro ⟨rfl, rfl⟩
    rfl

/-- FE00H to FEFFH is the RAM, whatever the board (R82). -/
theorem place_eq_ram (s : State) {a : Nat} (h : 0xFE00 ≤ a) (h' : a < 0xFF00) : s.place a = .ram := by
  unfold State.place Machine.place
  rw [if_neg (by omega), if_pos h]

/-- A store to the address of a register is a write of the register. -/
theorem writeByte_regAddr (p : Psw) (i : RegNo) (v : Byte) (s : State) :
    writeByte (BitVec.ofNat 16 (regAddr p.rbs i)) v s = .ok (writeReg p i v s) := by
  obtain ⟨hlow, hhigh⟩ := regAddr_range p.rbs i
  have ha : (BitVec.ofNat 16 (regAddr p.rbs i)).toNat = regAddr p.rbs i := Nat.mod_eq_of_lt (by omega)
  rw [writeByte, ha, place_eq_ram s (by omega) hhigh]
  rfl

theorem toNat_ofBytes (l h : Byte) : (Word.ofBytes l h).toNat = 256 * h.toNat + l.toNat := by
  rw [Word.ofBytes, BitVec.toNat_append, ← Nat.shiftLeft_add_eq_or_of_lt l.isLt, Nat.shiftLeft_eq]
  omega

/-- The two registers of a pair by their numbers. -/
theorem pair_append_eq : ∀ k : PairNo, k ++ 0#1 = BitVec.ofNat 4 (2 * k.toNat) ∧ k ++ 1#1 = BitVec.ofNat 4 (2 * k.toNat + 1) := by
  decide

/-- Settles O12: a register is a byte of memory at its own address, which is one of the RAM. -/
theorem registersArePlacesInRam : Obligations.RegistersArePlacesInRam := by
  refine ⟨fun b c i j => ⟨rfl, regAddr_eq_iff.1⟩, fun p i j v s hs => ?_, fun p k j w s hs => ?_⟩
  · exact ⟨readReg_writeReg p i j v s hs, writeReg_only p i v s, writeByte_regAddr p i v s⟩
  · obtain ⟨heven, hodd⟩ := pair_append_eq k
    refine ⟨?_, readPair_writePair p k j w s hs, writePair_only p k w s⟩
    rw [readPair, toNat_ofBytes, heven, hodd]

/-! ## The bytes of the PSW (R32, R33) -/

/-- A bit put below a number. -/
theorem toNat_append_ofBool {n : Nat} (x : BitVec n) (b : Bool) : (x ++ BitVec.ofBool b).toNat = 2 * x.toNat + b.toNat := by
  rw [BitVec.toNat_append, ← Nat.shiftLeft_add_eq_or_of_lt (BitVec.ofBool b).isLt, Nat.shiftLeft_eq, BitVec.toNat_ofBool]
  omega

theorem Psw.low_toNat (p : Psw) :
    p.low.toNat = 128 * p.s.toNat + 64 * p.z.toNat + 32 * p.rss.toNat + 16 * p.ac.toNat + 8 * p.uf.toNat + 4 * p.pv.toNat +
      2 * p.sub.toNat + p.cy.toNat := by
  simp only [Psw.low, toNat_append_ofBool, BitVec.toNat_ofBool]
  omega

theorem Psw.high_toNat (p : Psw) : p.high.toNat = 16 * p.rbs.toNat + p.ie.toNat := by
  rw [Psw.high, toNat_append_ofBool, BitVec.toNat_append, BitVec.toNat_append, Nat.shiftLeft_eq, Nat.shiftLeft_eq]
  simp
  omega

/-- Each bit of PSWL is its field. -/
theorem Psw.low_bits (p : Psw) :
    p.low.getLsbD 7 = p.s ∧ p.low.getLsbD 6 = p.z ∧ p.low.getLsbD 5 = p.rss ∧ p.low.getLsbD 4 = p.ac ∧ p.low.getLsbD 3 = p.uf ∧
      p.low.getLsbD 2 = p.pv ∧ p.low.getLsbD 1 = p.sub ∧ p.low.getLsbD 0 = p.cy := by
  simp only [Psw.low, BitVec.getLsbD_append]
  simp

theorem Psw.withLow_of_low (p q : Psw) : q.withLow p.low = { p with rbs := q.rbs, ie := q.ie } := by
  obtain ⟨hs, hz, hrss, hac, huf, hpv, hsub, hcy⟩ := p.low_bits
  rw [Psw.withLow, hs, hz, hrss, hac, huf, hpv, hsub, hcy]

theorem Psw.withHigh_of_high (p q : Psw) : q.withHigh p.high = { q with rbs := p.rbs, ie := p.ie } := by
  have hrbs : p.high.extractLsb' 4 3 = p.rbs := by
    apply BitVec.eq_of_toNat_eq
    rw [BitVec.extractLsb'_toNat, p.high_toNat, Nat.shiftRight_eq_div_pow]
    have := p.ie.toNat_lt
    omega
  have hie : p.high.getLsbD 0 = p.ie := by
    rw [Psw.high, BitVec.getLsbD_append]
    simp
  rw [Psw.withHigh, hrbs, hie]

/-- The two bytes of a PSW restore it, whatever was there. -/
theorem Psw.restore_low_high (p q : Psw) : q.restore p.low p.high = p := by
  rw [Psw.restore, Psw.withLow_of_low, Psw.withHigh_of_high]

/-- PSWH keeps the bits of a byte that hold a field. -/
theorem Psw.withHigh_high (p : Psw) (v : Byte) : (p.withHigh v).high = v &&& 0x71#8 := by
  refine BitVec.eq_of_getLsbD_eq fun i hi => ?_
  simp only [Psw.withHigh, Psw.high, BitVec.getLsbD_append]
  interval_cases i <;> simp

/-- Settles O15: each byte is its fields joined, bit by bit. -/
theorem pswBytesHoldTheFields : Obligations.PswBytesHoldTheFields :=
  ⟨fun p => ⟨p.low_toNat, p.high_toNat, p.restore_low_high⟩, fun p v => ⟨p.withLow_low v, rfl, p.withHigh_high v, rfl⟩⟩

/-! ## Short addresses (R52, R92, R93, R95) -/

/-- An address in a page of 256 bytes. -/
theorem toNat_page (page off : Byte) : (page ++ off).toNat = 256 * page.toNat + off.toNat := toNat_ofBytes off page

theorem sfrPage_eq (off : Byte) : 0xFF#8 ++ off = BitVec.ofNat 16 (0xFF00 + off.toNat) := by
  apply BitVec.eq_of_toNat_eq
  rw [toNat_page, BitVec.toNat_ofNat]
  simp
  omega

/-- The offsets that name a register with a 16-bit transfer (R52). -/
def wordOffsets : List Nat := [0x08, 0x0A, 0x0C, 0x0E, 0x10, 0x12, 0x14, 0x16, 0x1C, 0x1E, 0x88, 0x8A, 0x8C, 0x8E]

theorem isWordSfr_iff (off : Byte) : isWordSfr off.toNat = true ↔ off.toNat ∈ wordOffsets := by
  have hall : ((List.range 256).all fun n => isWordSfr n == decide (n ∈ wordOffsets)) = true := by decide +kernel
  rw [eq_of_beq (List.all_eq_true.1 hall _ (List.mem_range.2 off.isLt)), decide_eq_true_eq]

theorem getLsbD_zero_iff (off : Byte) : off.getLsbD 0 = true ↔ off.toNat % 2 = 1 := by
  simp [BitVec.getLsbD, Nat.testBit_zero]

theorem saddr_toNat (off : Byte) : (saddr off).toNat = if 0x20 ≤ off.toNat then 0xFE00 + off.toNat else 0xFF00 + off.toNat := by
  unfold saddr
  by_cases h : off.toNat < 0x20
  · rw [if_pos h, if_neg (by omega), toNat_page]
    rfl
  · rw [if_neg h, if_pos (by omega), toNat_page]
    rfl

theorem sfrAddr_eq (off : Byte) : sfrAddr off =
    if off.toNat < 0xFC then .ok (BitVec.ofNat 16 (0xFF00 + off.toNat)) else .error (.refusal (.spPswOperand off)) := by
  rw [sfrAddr, sfrPage_eq, ← ite_not]
  simp only [not_le]

theorem saddrpAddr_eq (off : Byte) : saddrpAddr off =
    if off.toNat % 2 = 1 then .error (.refusal (.oddWordOffset off))
    else if 0x20 ≤ off.toNat ∨ off.toNat ∈ wordOffsets then .ok (saddr off) else .error (.refusal (.notWordSfr off)) := by
  rw [saddrpAddr, ← ite_not (p := 0x20 ≤ off.toNat ∨ _)]
  simp only [getLsbD_zero_iff, Bool.and_eq_true, decide_eq_true_eq, Bool.not_eq_true', ← Bool.not_eq_true, isWordSfr_iff, not_or,
    not_le]

theorem sfrpAddr_eq (off : Byte) : sfrpAddr off =
    if 0xFC ≤ off.toNat then .error (.refusal (.spPswOperand off))
    else if off.toNat % 2 = 1 then .error (.refusal (.oddWordOffset off))
    else if off.toNat ∈ wordOffsets then .ok (BitVec.ofNat 16 (0xFF00 + off.toNat)) else .error (.refusal (.notWordSfr off)) := by
  rw [sfrpAddr, ← ite_not (p := off.toNat ∈ wordOffsets), sfrPage_eq]
  simp only [getLsbD_zero_iff, Bool.not_eq_true', ← Bool.not_eq_true, isWordSfr_iff]

/-! ## Functional names (R23, R24) -/

theorem Psw.names_of_rss {p : Psw} {b : Bool} (h : p.rss = b) :
    p.regX = (if b then 4#4 else 0#4) ∧ p.regA = (if b then 5#4 else 1#4) ∧ p.regC = (if b then 6#4 else 2#4) ∧
      p.regB = (if b then 7#4 else 3#4) ∧ p.accumulator = (if b then 2#3 else 0#3) := by
  subst h
  exact ⟨rfl, rfl, rfl, rfl, rfl⟩

/-- Settles O13: each address function branch by branch, with the offsets of R52 held against Table 1. -/
theorem namesAndShortAddresses : Obligations.NamesAndShortAddresses :=
  ⟨fun _ h => Psw.names_of_rss h, fun _ h => Psw.names_of_rss h, ⟨rfl, rfl, rfl, rfl⟩,
    fun off => ⟨saddr_toNat off, sfrAddr_eq off, saddrpAddr_eq off, sfrpAddr_eq off⟩⟩

end Sys2Proof.Machine
end

section
/-!
Where an access of an operand stops, the instruction stops (O16): first the families of instructions as their shared operations, then
the stops of each operation.
-/

namespace Sys2Proof.Machine

/-! ## The families as shared operations -/

theorem ByteMove.exec_eq {s : State} {i : Instr} {dst src : ByteOperand} (h : ByteMove s.psw i dst src) :
    ∃ n, exec i s = finish (move n dst src s) := by
  cases h
  all_goals exact ⟨_, rfl⟩

theorem ByteExchange.exec_eq {s : State} {i : Instr} {dst src : ByteOperand} (h : ByteExchange s.psw i dst src) :
    ∃ n, exec i s = finish (exchange n dst src s) := by
  cases h
  all_goals exact ⟨_, rfl⟩

theorem ByteArith.exec_eq {s : State} {i : Instr} {op : AluOp} {dst src : ByteOperand} (h : ByteArith s.psw i op dst src) :
    ∃ n, exec i s = finish (alu8Step op n dst src s) := by
  cases h
  all_goals exact ⟨_, rfl⟩

theorem WordMove.exec_eq {s : State} {i : Instr} {dst src : WordOperand} (h : WordMove s.psw i dst src) :
    ∃ n, exec i s = finish (moveWord n dst src s) := by
  cases h
  all_goals exact ⟨_, rfl⟩

theorem WordExchange.exec_eq {s : State} {i : Instr} {dst src : WordOperand} (h : WordExchange s.psw i dst src) :
    ∃ n, exec i s = finish (exchangeWord n dst src s) := by
  cases h
  all_goals exact ⟨_, rfl⟩

theorem WordArith.exec_eq {s : State} {i : Instr} {op : WordOp} {dst src : WordOperand} (h : WordArith s.psw i op dst src) :
    ∃ n, exec i s = finish (alu16Step op n dst src s) := by
  cases h
  all_goals exact ⟨_, rfl⟩

/-! ## Results over the integers (R262 to R264, R281, R282) -/

theorem add8_res (a b : Byte) (c : Bool) : (add8 a b c).res = BitVec.ofNat 8 (a.toNat + b.toNat + c.toNat) := by
  apply BitVec.eq_of_toNat_eq
  simp only [add8, BitVec.extractLsb'_toNat, BitVec.toNat_add, BitVec.truncate_eq_setWidth, BitVec.toNat_setWidth,
    BitVec.toNat_ofBool, BitVec.toNat_ofNat, Nat.shiftRight_zero]
  omega

theorem sub8_res (a b : Byte) (c : Bool) : (sub8 a b c).res = BitVec.ofInt 8 (a.toNat - b.toNat - c.toNat) := by
  apply BitVec.eq_of_toNat_eq
  simp only [sub8, BitVec.extractLsb'_toNat, BitVec.toNat_sub, BitVec.truncate_eq_setWidth, BitVec.toNat_setWidth,
    BitVec.toNat_ofBool, BitVec.toNat_ofInt, Nat.shiftRight_zero]
  have := c.toNat_lt
  omega

/-- The result of an 8-bit operation is the one over the integers. -/
theorem AluOp.result_eq_aluValue (op : AluOp) (c : Bool) (a b : Byte) : op.result c a b = aluValue op c a b := by
  cases op
  case add => exact add8_res a b false
  case addc => exact add8_res a b c
  case sub | cmp => exact (sub8_res a b false).trans (by simp [aluValue])
  case subc => exact sub8_res a b c
  all_goals rfl

theorem add16_res (free : Bool) (a b : Word) : (add16 free a b).res = BitVec.ofNat 16 (a.toNat + b.toNat) := by
  apply BitVec.eq_of_toNat_eq
  simp only [add16, BitVec.extractLsb'_toNat, BitVec.toNat_add, BitVec.truncate_eq_setWidth, BitVec.toNat_setWidth,
    BitVec.toNat_ofNat, Nat.shiftRight_zero]
  omega

theorem sub16_res (free : Bool) (a b : Word) : (sub16 free a b).res = BitVec.ofInt 16 (a.toNat - b.toNat) := by
  apply BitVec.eq_of_toNat_eq
  simp only [sub16, BitVec.extractLsb'_toNat, BitVec.toNat_sub, BitVec.truncate_eq_setWidth, BitVec.toNat_setWidth,
    BitVec.toNat_ofInt, Nat.shiftRight_zero]
  omega

/-- The result of a word operation is the one over the integers. -/
theorem alu16_res (op : WordOp) (n : Nat) (a b : Word) : (alu16 op n a b).res = wordValue op a b := by
  cases op
  case addw => exact add16_res _ a b
  case subw | cmpw => exact sub16_res _ a b

/-! ## Where an operation stops -/

/-- What a bind stops with: one of its parts. -/
theorem bind_eq_error {α β : Type} {x : Except Stop α} {f : α → Except Stop β} {e : Stop} :
    (x >>= f) = .error e ↔ x = .error e ∨ ∃ a, x = .ok a ∧ f a = .error e := by
  cases x <;> simp

theorem move_error {n : Nat} {dst src : ByteOperand} {s : State} {e : Stop} :
    move n dst src s = .error e ↔
      src.read 0 s.psw s = .error e ∨ ∃ v, src.read 0 s.psw s = .ok v ∧ dst.write v s.psw s = .error e := by
  simp [move, bind_eq_error]

theorem moveWord_error {n : Nat} {dst src : WordOperand} {s : State} {e : Stop} :
    moveWord n dst src s = .error e ↔
      src.read 0 s.psw s = .error e ∨ ∃ w, src.read 0 s.psw s = .ok w ∧ dst.write w s.psw s = .error e := by
  simp [moveWord, bind_eq_error]

theorem exchange_error {n : Nat} {dst src : ByteOperand} {s : State} {e : Stop} :
    exchange n dst src s = .error e ↔
      src.read 0 s.psw s = .error e ∨ ∃ v, src.read 0 s.psw s = .ok v ∧
        (dst.read 1 s.psw s = .error e ∨ ∃ a, dst.read 1 s.psw s = .ok a ∧
          (src.write a s.psw s = .error e ∨ ∃ u, src.write a s.psw s = .ok u ∧ dst.write v s.psw u = .error e)) := by
  simp [exchange, bind_eq_error]

theorem exchangeWord_error {n : Nat} {dst src : WordOperand} {s : State} {e : Stop} :
    exchangeWord n dst src s = .error e ↔
      src.read 0 s.psw s = .error e ∨ ∃ w, src.read 0 s.psw s = .ok w ∧
        (dst.read 1 s.psw s = .error e ∨ ∃ a, dst.read 1 s.psw s = .ok a ∧
          (src.write a s.psw s = .error e ∨ ∃ u, src.write a s.psw s = .ok u ∧ dst.write w s.psw u = .error e)) := by
  simp [exchangeWord, bind_eq_error]

theorem alu8Step_error {op : AluOp} {n : Nat} {dst src : ByteOperand} {s : State} {e : Stop} :
    alu8Step op n dst src s = .error e ↔
      src.read 0 s.psw s = .error e ∨ ∃ v, src.read 0 s.psw s = .ok v ∧
        (dst.read 1 s.psw s = .error e ∨ ∃ a, dst.read 1 s.psw s = .ok a ∧
          op ≠ .cmp ∧ dst.write (aluValue op s.psw.cy a v) s.psw s = .error e) := by
  cases op <;> simp [alu8Step, alu8, bind_eq_error, AluOp.stores, AluOp.result_eq_aluValue]

theorem alu16Step_error {op : WordOp} {n : Nat} {dst src : WordOperand} {s : State} {e : Stop} :
    alu16Step op n dst src s = .error e ↔
      src.read 0 s.psw s = .error e ∨ ∃ w, src.read 0 s.psw s = .ok w ∧
        (dst.read 1 s.psw s = .error e ∨ ∃ a, dst.read 1 s.psw s = .ok a ∧
          op ≠ .cmpw ∧ dst.write (wordValue op a w) s.psw s = .error e) := by
  cases op <;> simp [alu16Step, bind_eq_error, WordOp.stores, alu16_res]

/-- An instruction whose operation stops, whatever its length, stops as the operation does. -/
theorem stops_of_error {i : Instr} {s : State} {f : Nat → Except Stop State} {e : Stop} (h : ∃ n, exec i s = finish (f n))
    (hf : ∀ n, f n = .error e) :
    (∀ x, e = .fault x → exec i s = .fault x) ∧ (∀ x, e = .refusal x → exec i s = .refused x) := by
  obtain ⟨n, hn⟩ := h
  exact ⟨fun x he => by rw [hn, hf, he, finish_fault], fun x he => by rw [hn, hf, he, finish_refusal]⟩

/-- Settles O16: each family is one shared operation, which stops where one of its accesses does. -/
theorem operandStopsStopTheInstruction : Obligations.OperandStopsStopTheInstruction := by
  intro i s e stops
  constructor <;> intro dst src
  · intro isMove isSwap
    refine ⟨?read, fun v hsrc => ⟨?moveWrite, ?readDst, fun a hdst => ⟨?swapFirst, ?swapSecond, ?write⟩⟩⟩
    case read =>
      rintro (h | h | ⟨op, h⟩) hr
      · exact stops_of_error h.exec_eq fun _ => move_error.2 (.inl hr)
      · exact stops_of_error h.exec_eq fun _ => exchange_error.2 (.inl hr)
      · exact stops_of_error h.exec_eq fun _ => alu8Step_error.2 (.inl hr)
    case moveWrite => exact fun h hw => stops_of_error h.exec_eq fun _ => move_error.2 (.inr ⟨v, hsrc, hw⟩)
    case readDst =>
      rintro (h | ⟨op, h⟩) hr
      · exact stops_of_error h.exec_eq fun _ => exchange_error.2 (.inr ⟨v, hsrc, .inl hr⟩)
      · exact stops_of_error h.exec_eq fun _ => alu8Step_error.2 (.inr ⟨v, hsrc, .inl hr⟩)
    case swapFirst =>
      exact fun h hw => stops_of_error h.exec_eq fun _ => exchange_error.2 (.inr ⟨v, hsrc, .inr ⟨a, hdst, .inl hw⟩⟩)
    case swapSecond =>
      exact fun h u hu hw => stops_of_error h.exec_eq fun _ =>
        exchange_error.2 (.inr ⟨v, hsrc, .inr ⟨a, hdst, .inr ⟨u, hu, hw⟩⟩⟩)
    case write =>
      exact fun op h hop hw => stops_of_error h.exec_eq fun _ => alu8Step_error.2 (.inr ⟨v, hsrc, .inr ⟨a, hdst, hop, hw⟩⟩)
  · intro isMove isSwap
    refine ⟨?read, fun w hsrc => ⟨?moveWrite, ?readDst, fun a hdst => ⟨?swapFirst, ?swapSecond, ?write⟩⟩⟩
    case read =>
      rintro (h | h | ⟨op, h⟩) hr
      · exact stops_of_error h.exec_eq fun _ => moveWord_error.2 (.inl hr)
      · exact stops_of_error h.exec_eq fun _ => exchangeWord_error.2 (.inl hr)
      · exact stops_of_error h.exec_eq fun _ => alu16Step_error.2 (.inl hr)
    case moveWrite => exact fun h hw => stops_of_error h.exec_eq fun _ => moveWord_error.2 (.inr ⟨w, hsrc, hw⟩)
    case readDst =>
      rintro (h | ⟨op, h⟩) hr
      · exact stops_of_error h.exec_eq fun _ => exchangeWord_error.2 (.inr ⟨w, hsrc, .inl hr⟩)
      · exact stops_of_error h.exec_eq fun _ => alu16Step_error.2 (.inr ⟨w, hsrc, .inl hr⟩)
    case swapFirst =>
      exact fun h hw => stops_of_error h.exec_eq fun _ => exchangeWord_error.2 (.inr ⟨w, hsrc, .inr ⟨a, hdst, .inl hw⟩⟩)
    case swapSecond =>
      exact fun h u hu hw => stops_of_error h.exec_eq fun _ =>
        exchangeWord_error.2 (.inr ⟨w, hsrc, .inr ⟨a, hdst, .inr ⟨u, hu, hw⟩⟩⟩)
    case write =>
      exact fun op h hop hw => stops_of_error h.exec_eq fun _ => alu16Step_error.2 (.inr ⟨w, hsrc, .inr ⟨a, hdst, hop, hw⟩⟩)

end Sys2Proof.Machine
end

section
/-!
The vectored entry of an accepted interrupt (O56), and the machine after a pulse on RESET (O60).
-/

namespace Sys2Proof.Machine

/-! ## Vectored entry (R602, R612, R620) -/

/-- Storing bytes leaves what is in service and the requests that are not maskable. -/
theorem writeByte_service {a : Addr} {v : Byte} {s t : State} (h : writeByte a v s = .ok t) : t.service = s.service := by
  rw [(writeByte_only h).rest]

/-- Four stores below SP, and the vector read after them, are a vectored entry. -/
theorem enterVector_of_writes {s t u v w : State} {vector ret target : Addr} (mark : Service)
    (ht : writeByte (s.sp - 1#16) s.psw.high s = .ok t) (hu : writeByte (s.sp - 2#16) s.psw.low t = .ok u)
    (hv : writeByte (s.sp - 3#16) (Word.hi ret) u = .ok v) (hw : writeByte (s.sp - 4#16) (Word.lo ret) v = .ok w)
    (hr : readWord 0 vector w = .ok target) :
    enterVector vector ret mark s = .ok { w with
      sp := s.sp - 4#16, pc := target, psw := { w.psw with ie := false }, service := mark :: s.service } := by
  have hthree : s.sp - 2#16 - 1#16 = s.sp - 3#16 := by bv_omega
  have hfour : s.sp - 2#16 - 2#16 = s.sp - 4#16 := by bv_omega
  have hservice : w.service = s.service := by
    rw [writeByte_service hw, writeByte_service hv, writeByte_service hu, writeByte_service ht]
  refine enterVector_ok.2 ⟨u, w, target, pushAt_ok.2 ⟨t, ?_, ?_⟩, pushAt_ok.2 ⟨v, ?_, ?_⟩, hr, by rw [hservice]⟩
  · rwa [Psw.word, hi_ofBytes]
  · rwa [Psw.word, lo_ofBytes]
  · rwa [hthree]
  · rwa [hfour]

/-- In RUN a step serves an event that is an entry, and the routine is fetched anew. -/
theorem step_of_entry {s t : State} {e : Event} (hrun : s.run = .running) (he : boundary s = some e)
    (hentry : e.transfers s = false) (ht : serve e s = .ok t) : step s = .next (afterStep true 0 s t) := by
  rw [step_of_due ((due_running hrun).trans he), ht, hentry, hrun]
  rfl

/-- Settles O56: the stores are those of `enterVector`, which `serve` makes for the event of the boundary. -/
theorem vectoredInterruptEntry : Obligations.VectoredInterruptEntry := by
  refine ⟨fun q => by cases q <;> rfl, fun s t u v w vector target hrun ht hu hv hw hr => ?_⟩
  have henter (mark : Service) := enterVector_of_writes mark ht hu hv hw hr
  refine ⟨fun he hvec => ?nmi, fun he hvec => ?wdt, fun q he hmode hvec => ?maskable⟩
  case nmi =>
    subst hvec
    exact step_of_entry hrun he rfl (bind_eq_ok.2 ⟨_, henter .nmi, rfl⟩)
  case wdt =>
    subst hvec
    exact step_of_entry hrun he rfl (bind_eq_ok.2 ⟨_, henter .wdt, rfl⟩)
  case maskable =>
    subst hvec
    refine step_of_entry hrun he (by rw [Event.transfers, hmode]; rfl) ?_
    rw [serve, hmode]
    exact bind_eq_ok.2 ⟨_, henter (.level (level s q)), rfl⟩

/-! ## RESET (R70, R700 to R704) -/

/-- Dropping the entries of some addresses leaves the others as they were, and those as unlisted. -/
theorem Memory.get_filter (m : Memory) (p : Nat → Bool) (a : Nat) :
    Memory.get (m.filter fun c => p c.1) a = if p a then Memory.get m a else resetByte a := by
  induction m with
  | nil => exact (ite_self _).symm
  | cons c m ih =>
    obtain ⟨x, v⟩ := c
    rw [List.filter_cons]
    by_cases hx : x = a
    · subst hx
      cases hp : p x
      · simpa [hp] using ih
      · simp [Memory.get]
    · have hcons : Memory.get ((x, v) :: m) a = Memory.get m a := if_neg hx
      split
      · rw [Memory.get, if_neg hx, ih, hcons]
      · rw [ih, hcons]

/-- The machine after a pulse on RESET but for pc, which the reset word gives (`resetPin_ok`). -/
def State.afterReset (s : State) : State :=
  { State.reset with
    mem := Memory.set (s.mem.filter fun c => decide (c.1 < 0xFF00)) stbcAddr
      (resetByte stbcAddr &&& 0xF7#8 ||| s.byte stbcAddr &&& 0x08#8)
    board := s.board
    draws := s.draws + 1 }

theorem resetPin_ok {s t : State} :
    resetPin s = .ok t ↔ ∃ target, readWord 0 0x0000#16 s.afterReset = .ok target ∧ t = s.afterReset.withPc target := by
  simp only [resetPin, bind_eq_ok, Except.ok.injEq, @eq_comm _ _ t]
  rfl

theorem State.afterReset_byte (s : State) {a : Nat} (h : a ≠ stbcAddr) :
    s.afterReset.byte a = if a < 0xFF00 then s.byte a else State.reset.byte a := by
  have hget := Memory.get_filter s.mem (fun a => decide (a < 0xFF00)) a
  simp only [decide_eq_true_eq] at hget
  exact (Memory.get_set_other _ _ _ _ h.symm).trans hget

theorem State.afterReset_stbc (s : State) (hs : s.mem.wf = true) :
    s.afterReset.byte stbcAddr = (State.reset.byte stbcAddr &&& 0xF7#8 ||| s.byte stbcAddr &&& 0x08#8) :=
  Memory.get_set_same _ 0 _ _ (Memory.filter_wfFrom s.mem 0 _ hs)

/-- A byte read below the SFR area and outside a device answers what memory holds. -/
theorem readByte_eq_byte {k : Nat} {a : Addr} {s : State} {v : Byte} (h : readByte k a s = .ok v) (ha : a.toNat < 0xFF00)
    (hd : s.place a.toNat ≠ .external .device) : v = s.byte a.toNat := by
  unfold readByte at h
  split at h
  · next hp => exact absurd ((place_eq_sfr s _).1 hp) (by omega)
  · cases h; rfl
  · cases h; rfl
  · cases h; rfl
  · cases h; rfl
  · next hp => exact absurd hp hd
  · cases h
  · cases h

/-- The reset word is the word at 0000H where no device stands there: MM selects what it does after reset, whatever it was. -/
theorem resetPin_target {s : State} {target : Word} (h : readWord 0 0x0000#16 s.afterReset = .ok target)
    (hd : ∀ a, a < 2 → place s.board 0x30#8 a ≠ .external .device) : target = s.wordAt 0x0000#16 := by
  have hplace (a : Nat) : s.afterReset.place a = place s.board 0x30#8 a :=
    congrArg (place s.board · a) (s.afterReset_byte (by decide))
  have hbyte {a : Addr} {v : Byte} (ha : a.toNat < 2) (hv : readByte 0 a s.afterReset = .ok v) : v = s.byte a.toNat := by
    rw [readByte_eq_byte hv (by omega) (by rw [hplace]; exact hd _ ha), s.afterReset_byte (by rw [stbcAddr]; omega),
      if_pos (by omega)]
  obtain ⟨lo, hi, hlo, hhi, rfl⟩ := readWord_ok.1 h
  rw [hbyte (by decide) hlo, hbyte (by decide) hhi]
  rfl

/-- Settles O60: the reset state is one literal; the reset line keeps memory below FF00H and bit 3 of STBC. -/
theorem resetGivesTheStatedValues : Obligations.ResetGivesTheStatedValues := by
  refine ⟨⟨by decide, by decide, by decide, by decide, by decide, by decide, by decide, by decide, by decide, rfl, rfl, rfl, rfl,
    rfl, rfl, rfl, rfl, by decide, fun q => by cases q <;> decide⟩, fun s t hs h => ?_⟩
  obtain ⟨target, htarget, rfl⟩ := resetPin_ok.1 h
  refine ⟨fun a ha => ?_, fun a ha _ hstbc => ?_, s.afterReset_stbc hs, resetPin_target htarget, rfl⟩
  · exact (s.afterReset_byte (by rw [stbcAddr]; omega)).trans (if_pos ha)
  · exact (s.afterReset_byte hstbc).trans (if_neg (by omega))

end Sys2Proof.Machine
end

section
/-!
The address behind an instruction, the addresses of memory operands, and MOV and XCH of the byte there (O14, O21, O22).
-/

namespace Sys2Proof.Machine

/-! ## The address after an instruction and the target of a branch (R28, R440) -/

theorem State.pc_add_eq_after (s : State) (n : Nat) : s.pc + BitVec.ofNat 16 n = s.after n := by
  rw [State.after, BitVec.ofNat_add, BitVec.ofNat_toNat, BitVec.setWidth_eq]

theorem State.branchTarget_eq_target (s : State) (n : Nat) (j : Byte) : branchTarget (s.after n) j = s.target n j := by
  rw [branchTarget, State.after, State.target, BitVec.signExtend, BitVec.ofInt_add]
  congr 1

theorem State.branch_eq (s : State) (n : Nat) (j : Byte) (taken : Bool) :
    s.branch n j taken = s.withPc (if taken then s.target n j else s.after n) := by
  rw [State.branch, s.pc_add_eq_after, s.branchTarget_eq_target]

/-- A state that differs at cells alone has the pc of the other, so it goes on behind the same instruction. -/
theorem OnlyCells.advance_eq {l : List Nat} {s t : State} (h : OnlyCells l s t) (n : Nat) :
    t.advance n = t.withPc (s.after n) := by
  rw [State.advance, h.pc, s.pc_add_eq_after]

theorem OnlyCells.branch_eq {l : List Nat} {s t : State} (h : OnlyCells l s t) (n : Nat) (j : Byte) (taken : Bool) :
    t.branch n j taken = t.withPc (if taken then s.target n j else s.after n) := by
  rw [t.branch_eq, State.target, State.after, State.target, State.after, h.pc]

/-! ## Effective addresses (R101 to R104) -/

theorem toNat_zeroExtend_byte (v : Byte) : (v.zeroExtend 16).toNat = v.toNat :=
  BitVec.toNat_setWidth_of_le (by decide)

theorem toNat_eq_mod (w : Word) : w.toNat = w.toNat % 0x10000 := (Nat.mod_eq_of_lt w.isLt).symm

theorem toNat_add_byte (w : Word) (v : Byte) : (w + v.zeroExtend 16).toNat = (w.toNat + v.toNat) % 0x10000 := by
  rw [BitVec.toNat_add, toNat_zeroExtend_byte]

/-- Settles O14: each operand is a pair, or a sum of two terms, mod 10000H; only the four pointer forms move a pair. -/
theorem memoryOperandAddresses : Obligations.MemoryOperandAddresses := by
  intro m s de hl vp up a b
  refine ⟨?_, fun p => by cases m <;> rfl⟩
  cases m
  case deInc | deDec | de | hlInc | hlDec | hl | vp | up => exact toNat_eq_mod _
  case vpDe | vpHl | wordDe | wordHl => exact BitVec.toNat_add _ _
  all_goals exact toNat_add_byte _ _

/-! ## MOV and XCH of A with a memory operand (R210 to R213, R227) -/

theorem memBytes_length (d : BitVec 1) (op : BitVec 4) (m : MemOperand) : (memBytes d op m).length = m.length :=
  Nat.add_comm m.offsets.length 2

theorem MemLoad.exec_eq {i : Instr} {m : MemOperand} (h : MemLoad i m) (s : State) :
    exec i s = finish (loadMem i.length m s) := by
  cases h with
  | movAMem1 m => rfl
  | movAMem => exact congrArg (fun n => finish (loadMem n m s)) (memBytes_length _ _ m).symm

theorem MemStore.exec_eq {i : Instr} {m : MemOperand} (h : MemStore i m) (s : State) :
    exec i s = finish (storeMem i.length m s) := by
  cases h with
  | movMemA1 m => rfl
  | movMemA => exact congrArg (fun n => finish (storeMem n m s)) (memBytes_length _ _ m).symm

theorem MemExchange.exec_eq {i : Instr} {m : MemOperand} (h : MemExchange i m) (s : State) :
    exec i s = finish (exchangeMem i.length m s) := by
  cases h
  exact congrArg (fun n => finish (exchangeMem n m s)) (memBytes_length _ _ m).symm

/-- Settles O21: the byte is accessed at the effective address, and the pointer update follows. -/
theorem memoryMovesUseTheEffectiveAddress : Obligations.MemoryMovesUseTheEffectiveAddress := by
  intro i s m ea acc
  have hreg (v : Byte) (u : State) : OnlyCells [acc] u (writeReg s.psw s.psw.regA v u) := writeReg_only _ _ v u
  have hbump (u : State) := bump_only s.psw m u
  refine ⟨fun hi v hv => ?load, fun hi u hu => ?store, fun hi v u hv hu => ?exchange⟩
  case load =>
    have hcells := (hreg v s).trans (hbump _)
    refine ⟨_, rfl, ?_, hcells⟩
    rw [hi.exec_eq, finish_eq_next, loadMem_ok]
    exact ⟨v, hv, (hcells.advance_eq _).symm⟩
  case store =>
    have hcells := (writeByte_only hu).trans (hbump _)
    refine ⟨_, rfl, ?_, hcells⟩
    rw [hi.exec_eq, finish_eq_next, storeMem_ok]
    exact ⟨u, hu, (hcells.advance_eq _).symm⟩
  case exchange =>
    have hcells := ((writeByte_only hu).trans (hreg v u)).trans (hbump _)
    refine ⟨_, rfl, ?_, hcells⟩
    rw [hi.exec_eq, finish_eq_next, exchangeMem_ok]
    exact ⟨v, u, hv, hu, (hcells.advance_eq _).symm⟩

/-! ## MOV and XCH of A with [saddrp] (R94, R221, R222, R230) -/

theorem pointerWord_eq_ok {k : Nat} {off : Byte} {p a : Addr} {s : State} (hp : saddrpAddr off = .ok p)
    (ha : readWord k p s = .ok a) : pointerWord k off s = .ok a := bind_eq_ok.2 ⟨p, hp, ha⟩

/-- Settles O22: the word at saddr(o) is read first, then the instruction is a move or exchange with the byte it points to. -/
theorem indirectMovesUseTheWordAtSaddr : Obligations.IndirectMovesUseTheWordAtSaddr := by
  intro off p a s hp ha acc
  have hpointer := pointerWord_eq_ok hp ha
  have hreg (v : Byte) (u : State) := writeReg_only s.psw s.psw.regA v u
  refine ⟨fun v hv => ?load, fun u hu => ⟨?store, writeByte_only hu⟩, fun v u hv hu => ?exchange⟩
  case load =>
    refine (finish_eq_next _ _).2 (bind_eq_ok.2 ⟨a, hpointer, move_ok.2 ⟨v, _, hv, rfl, ?_⟩⟩)
    exact ((hreg v s).advance_eq 2).symm
  case store =>
    refine (finish_eq_next _ _).2 (bind_eq_ok.2 ⟨a, hpointer, move_ok.2 ⟨acc, u, rfl, hu, ?_⟩⟩)
    exact ((writeByte_only hu).advance_eq 2).symm
  case exchange =>
    have hcells := (writeByte_only hu).trans (hreg v u)
    refine ⟨(finish_eq_next _ _).2 (bind_eq_ok.2 ⟨a, hpointer, exchange_ok.2 ⟨v, acc, u, _, hv, rfl, hu, rfl, ?_⟩⟩), hcells⟩
    exact (hcells.advance_eq 2).symm

end Sys2Proof.Machine
end

section
/-!
Branches (O46, O48, O49): each family is one shared operation, and the step fetches anew exactly when it branches.
-/

namespace Sys2Proof.Machine

/-! ## The families as shared operations -/

theorem FlagBranch.refetches_eq {i : Instr} {cond : Condition} {j : Byte} (h : FlagBranch i cond j) (s : State) :
    refetches i s = cond.holds s.psw := by
  cases h
  case bgtRel => exact (by decide : ∀ v n z : Bool, (!((v ^^ n) || z)) = (v == n && !z)) _ _ _
  case bgeRel => exact (by decide : ∀ v n : Bool, (!(v ^^ n)) = (v == n)) _ _
  case bhRel => exact Bool.not_or _ _
  all_goals rfl

theorem FlagBranch.exec_eq {i : Instr} {cond : Condition} {j : Byte} (h : FlagBranch i cond j) (s : State) :
    exec i s = .next (s.branch i.length j (refetches i s)) := by
  cases h
  all_goals rfl

theorem BitTest.exec_eq {i : Instr} {s : State} {sense : Bool} {o : ByteOperand} {bit : BitVec 3} {j : Byte}
    (h : BitTest s.psw i sense o bit j) : exec i s = finish (testBit sense i.length o bit j s) := by
  cases h
  all_goals rfl

theorem BitTest.refetches_eq {i : Instr} {s : State} {sense : Bool} {o : ByteOperand} {bit : BitVec 3} {j : Byte}
    (h : BitTest s.psw i sense o bit j) : refetches i s = bitIs sense o bit s := by
  cases h
  all_goals rfl

theorem BitTestWrite.exec_eq {i : Instr} {s : State} {sense : Bool} {o : ByteOperand} {bit : BitVec 3} {j : Byte}
    (h : BitTestWrite s.psw i sense o bit j) : exec i s = finish (testAndWrite sense i.length o bit j s) := by
  cases h
  all_goals rfl

theorem BitTestWrite.refetches_eq {i : Instr} {s : State} {sense : Bool} {o : ByteOperand} {bit : BitVec 3} {j : Byte}
    (h : BitTestWrite s.psw i sense o bit j) : refetches i s = bitIs sense o bit s := by
  cases h
  all_goals rfl

theorem CountBranch.exec_eq {i : Instr} {s : State} {o : ByteOperand} {j : Byte} (h : CountBranch s.psw i o j) :
    exec i s = finish (countDown i.length o j s) := by
  cases h with
  | dbnzR2Rel r2 => cases r2 <;> rfl
  | dbnzSaddrRel => rfl

theorem CountBranch.refetches_eq {i : Instr} {s : State} {o : ByteOperand} {j : Byte} (h : CountBranch s.psw i o j) :
    refetches i s = countsOn o s := by
  cases h
  all_goals rfl

/-! ## Bits and counts -/

theorem getLsbD_putBit (v : Byte) (bit : BitVec 3) (b : Bool) {n : Nat} (hn : n < 8) :
    (putBit v bit b).getLsbD n = if n = bit.toNat then b else v.getLsbD n := by
  have hmask : (1#8 <<< bit.toNat).getLsbD n = decide (n = bit.toNat) := by
    rw [← BitVec.twoPow_eq, BitVec.getLsbD_twoPow]
    simp only [show bit.toNat < 8 from bit.isLt, decide_true, Bool.true_and, eq_comm]
  cases b
  case false =>
    simp only [putBit, Bool.false_eq_true, if_false, BitVec.getLsbD_and, BitVec.getLsbD_not, hmask, hn, decide_true,
      Bool.true_and]
    by_cases h : n = bit.toNat <;> simp [h]
  case true =>
    simp only [putBit, if_true, BitVec.getLsbD_or, hmask]
    by_cases h : n = bit.toNat <;> simp [h]

/-- A byte with one bit replaced is determined by its bits. -/
theorem eq_putBit {v w : Byte} {bit : BitVec 3} {b : Bool}
    (h : ∀ n, n < 8 → w.getLsbD n = if n = bit.toNat then b else v.getLsbD n) : w = putBit v bit b :=
  BitVec.eq_of_getLsbD_eq fun n hn => by rw [h n hn, getLsbD_putBit v bit b hn]

theorem ofInt_pred (v : Byte) : BitVec.ofInt 8 (v.toNat - 1) = v - 1#8 := by
  apply BitVec.eq_of_toNat_eq
  rw [BitVec.toNat_ofInt, BitVec.toNat_sub, BitVec.toNat_ofNat]
  omega

/-- A count goes to 0 from 1 alone: 0 wraps to FFH (R488). -/
theorem pred_ne_zero (v : Byte) : (v - 1#8 != 0#8) = decide (v ≠ 1#8) := by
  rw [Bool.eq_iff_iff, bne_iff_ne, decide_eq_true_eq, ne_eq, ne_eq, BitVec.sub_eq_iff_eq_add, BitVec.zero_add]

/-! ## The obligations -/

/-- Settles O46: a branch changes pc alone, and its condition is the one on which the step refetches. -/
theorem jumpsAndBranchesChangePcAlone : Obligations.JumpsAndBranchesChangePcAlone := by
  refine ⟨fun s w k => ⟨rfl, rfl, fun target h => ?indirect, rfl, rfl, rfl⟩, fun i s cond j h => ?flags⟩
  case indirect => exact (finish_eq_next _ _).2 (bind_eq_ok.2 ⟨target, h, rfl⟩)
  case flags =>
    have hcond := h.refetches_eq s
    exact ⟨by rw [h.exec_eq, hcond, s.branch_eq]; rfl, hcond⟩

/-- Settles O48: the operations are `testBit` and `testAndWrite`, and the byte written back is `putBit` of the byte read. -/
theorem bitBranches : Obligations.BitBranches := by
  intro i s sense o bit j v hv taken
  have hbit : bitIs sense o bit s = taken := bitIs_of_ok hv
  refine ⟨?refetch, fun h => ?test, fun h => ⟨fun hn => ?past, fun ht w u hw hu => ?write⟩⟩
  case refetch =>
    rintro (h | h)
    · rw [h.refetches_eq, hbit]
    · rw [h.refetches_eq, hbit]
  case test =>
    rw [h.exec_eq, finish_eq_next, testBit_ok]
    exact ⟨v, hv, (s.branch_eq _ j taken).symm⟩
  case past =>
    rw [h.exec_eq, finish_eq_next, testAndWrite_ok]
    exact ⟨v, hv, .inr ⟨beq_eq_false_iff_ne.1 hn, (s.branch_eq _ j false).symm⟩⟩
  case write =>
    have hcells := ByteOperand.write_only hu
    refine ⟨?_, hcells⟩
    rw [h.exec_eq, finish_eq_next, testAndWrite_ok]
    exact ⟨v, hv, .inl ⟨beq_iff_eq.1 ht, u, eq_putBit hw ▸ hu, (hcells.branch_eq _ j true).symm⟩⟩

/-- Settles O49: the operation is `countDown`; the count is 0 afterwards exactly when it was 1. -/
theorem countedBranches : Obligations.CountedBranches := by
  intro i s u o j v h hv hu
  have hcells := ByteOperand.write_only hu
  refine ⟨?_, ?_, hcells⟩
  · rw [h.exec_eq, finish_eq_next, countDown_ok]
    refine ⟨v, u, hv, ofInt_pred v ▸ hu, ?_⟩
    rw [hcells.branch_eq, pred_ne_zero]
    simp only [decide_eq_true_eq, ne_eq, ite_not]
    rfl
  · rw [h.refetches_eq, countsOn_of_ok hv, pred_ne_zero]

end Sys2Proof.Machine
end

section
/-!
Where an instruction byte comes from (O6).
-/

namespace Sys2Proof.Machine

/-- An address that reads as held lies below the SFR area. -/
theorem readsAsHeld_lt {s : State} {a : Nat} (h : readsAsHeld s a = true) : a < 0xFF00 := by
  by_contra hn
  rw [readsAsHeld, (place_eq_sfr s a).2 (by omega)] at h
  exact absurd h nofun

theorem readByte_of_readsAsHeld (k : Nat) {s : State} {a : Addr} (h : readsAsHeld s a.toNat = true) :
    readByte k a s = .ok (s.byte a.toNat) := by
  unfold readsAsHeld at h
  split at h
  · next hp => rw [readByte, hp]
  · next hp => rw [readByte, hp]
  · next hp => rw [readByte, hp]
  · next hp => rw [readByte, hp]
  · cases h

theorem fetchByte_sfr {s : State} {a : Addr} (h : 0xFF00 ≤ a.toNat) :
    fetchByte a s = .error (.fault (.fetchSfr a.toNat)) := if_pos h

/-- Below the SFR area a byte is one that the queue holds of the address, or else the one a read answers. -/
theorem fetchByte_low {s : State} {a : Addr} (h : a.toNat < 0xFF00) :
    (∃ v, (a.toNat, v) ∈ s.prefetch ∧ fetchByte a s = .ok v) ∨ fetchByte a s = readByte 8 a s := by
  rw [fetchByte, if_neg (by omega)]
  split
  · next v hv => exact .inl ⟨v, mem_queued.1 (List.mem_of_getElem? hv), rfl⟩
  · exact .inr rfl

/-- Settles O6: the queue holds bytes of an address, or memory is read. -/
theorem fetchReadsMemoryOutsideTheQueue : Obligations.FetchReadsMemoryOutsideTheQueue := by
  refine fun s a => ⟨fetchByte_sfr, fun h => ?_⟩
  have hread := readByte_of_readsAsHeld 8 h
  rcases fetchByte_low (readsAsHeld_lt h) with ⟨v, hv, hfetch⟩ | hfetch
  · exact ⟨⟨v, hfetch, .inr hv⟩, fun hnone => absurd rfl (hnone _ hv)⟩
  · exact ⟨⟨_, hfetch.trans hread, .inl rfl⟩, fun _ => hfetch.trans hread⟩

end Sys2Proof.Machine
end

section
/-!
Macroservice (O58): the record of a channel, one transfer, and the step that serves the request.
-/

namespace Sys2Proof.Machine

/-! ## The record of a channel (R640) -/

theorem recordAt_ne {x y : Byte} (h : x ≠ y) : recordAt x ≠ recordAt y :=
  fun e => h (BitVec.eq_of_toNat_eq (Nat.add_left_cancel e))

theorem setByte_recordAt_wf (off v : Byte) {s : State} (h : s.mem.wf = true) : (s.setByte (recordAt off) v).mem.wf = true :=
  Memory.set_wf _ _ _ h (by have := recordAt_lt off; omega)

theorem setRecordAddress_only (ch : MacroChannel) (a : Addr) (s : State) :
    OnlyCells [recordAt ch.addrLow, recordAt ch.addrHigh] s (setRecordAddress ch a s) :=
  (setByte_only s _ _).trans (setByte_only _ _ _)

theorem setRecordAddress_wf (ch : MacroChannel) (a : Addr) {s : State} (h : s.mem.wf = true) :
    (setRecordAddress ch a s).mem.wf = true := setByte_recordAt_wf _ _ (setByte_recordAt_wf _ _ h)

/-- The address of a record after it is stored, where its two bytes lie apart. -/
theorem recordAddress_setRecordAddress {ch : MacroChannel} (hne : ch.addrLow ≠ ch.addrHigh) (a : Addr) {s : State}
    (h : s.mem.wf = true) : recordAddress ch (setRecordAddress ch a s) = a := by
  rw [recordAddress, setRecordAddress, State.byte_setByte_same _ _ _ (setByte_recordAt_wf _ _ h),
    State.byte_setByte_other _ _ _ _ (recordAt_ne hne.symm), State.byte_setByte_same _ _ _ h, ofBytes_lo_hi]

theorem recordAddress_setByte_count {ch : MacroChannel} (hlow : ch.count ≠ ch.addrLow) (hhigh : ch.count ≠ ch.addrHigh)
    (v : Byte) (s : State) : recordAddress ch (s.setByte (recordAt ch.count) v) = recordAddress ch s := by
  rw [recordAddress, State.byte_setByte_other _ _ _ _ (recordAt_ne hlow), State.byte_setByte_other _ _ _ _ (recordAt_ne hhigh)]
  rfl

/-- How many bytes a transfer moves. -/
def datumSize (ch : MacroChannel) : Nat := if ch.word then 2 else 1

/-- The state once the datum has moved and the address of the record moves on, where the channel says so (`transfer_eq_ok`). -/
def advanceRecord (ch : MacroChannel) (t : State) : State :=
  if ch.increment then setRecordAddress ch (recordAddress ch t + BitVec.ofNat 16 (datumSize ch)) t else t

theorem advanceRecord_only (ch : MacroChannel) (t : State) :
    OnlyCells [recordAt ch.addrLow, recordAt ch.addrHigh] t (advanceRecord ch t) := by
  unfold advanceRecord
  split
  · exact setRecordAddress_only ch _ t
  · exact (OnlyCells.refl t).mono fun _ h => absurd h List.not_mem_nil

theorem advanceRecord_wf (ch : MacroChannel) {t : State} (h : t.mem.wf = true) : (advanceRecord ch t).mem.wf = true := by
  unfold advanceRecord
  split
  · exact setRecordAddress_wf ch _ h
  · exact h

theorem advanceRecord_eq (ch : MacroChannel) (t : State) :
    advanceRecord ch t = { t with mem := (advanceRecord ch t).mem, prefetch := (advanceRecord ch t).prefetch } := by
  unfold advanceRecord
  split
  · rfl
  · rfl

theorem recordAddress_advanceRecord {ch : MacroChannel} (hne : ch.addrLow ≠ ch.addrHigh) {t : State}
    (h : t.mem.wf = true) :
    (recordAddress ch (advanceRecord ch t)).toNat =
      ((recordAddress ch t).toNat + if ch.increment then datumSize ch else 0) % 0x10000 := by
  unfold advanceRecord
  split
  · rw [recordAddress_setRecordAddress hne _ h, BitVec.toNat_add, BitVec.toNat_ofNat, Nat.add_mod_mod]
  · exact toNat_eq_mod _

/-- A transfer after its datum: the address moves on, then the count goes down. -/
theorem transfer_eq_ok {ch : MacroChannel} {s t : State} (h : moveDatum ch s = .ok t) :
    transfer ch s = .ok ((advanceRecord ch t).setByte (recordAt ch.count) ((advanceRecord ch t).byte (recordAt ch.count) - 1#8),
      (advanceRecord ch t).byte (recordAt ch.count) - 1#8) := by
  refine transfer_ok.2 ⟨t, advanceRecord ch t, h, ?_, rfl, rfl⟩
  unfold advanceRecord datumSize
  cases ch.word <;> rfl

/-! ## The step that serves a macroservice request (R640 to R642, R650, R651) -/

/-- Outside STOP a macroservice request that the boundary rule takes is due, also in HALT. -/
theorem due_of_macroservice {s : State} {q : Source} (hrun : s.run ≠ .stopped) (hb : boundary s = some (.maskable q))
    (hm : serviceMode s q = .macroservice) : due s = some (.maskable q) := by
  have htransfers : (Event.maskable q).transfers s = true := beq_iff_eq.2 hm
  cases hr : s.run with
  | running => rw [due_running hr, hb]
  | halted => exact (due_halted hr).2 ⟨hb, htransfers⟩
  | stopped => exact absurd hr hrun

theorem serve_of_macroservice {s : State} {q : Source} (hm : serviceMode s q = .macroservice) :
    serve (.maskable q) s = serveMacro q s >>= fun t => .ok { t with accepted := true } := by
  simp only [serve, hm]

/-- A step that serves a macroservice request ends as the service does; the queue keeps what it holds of the instruction at pc. -/
theorem step_of_macroservice {s : State} {q : Source} (hrun : s.run ≠ .stopped) (hb : boundary s = some (.maskable q))
    (hm : serviceMode s q = .macroservice) :
    step s = finish ((serveMacro q s).map fun t => afterStep false s.fetched s (rouse s.run { t with accepted := true })) := by
  have htransfers : (Event.maskable q).transfers s = true := beq_iff_eq.2 hm
  rw [step_of_due (due_of_macroservice hrun hb hm), serve_of_macroservice hm, htransfers]
  cases serveMacro q s <;> rfl

theorem serveMacro_of_none {q : Source} (h : Config.macroservice q.priority = none) (s : State) :
    serveMacro q s = .error (.refusal (.macroservice q.priority)) := by
  rw [serveMacro, h]

theorem serveMacro_of_transfer {q : Source} {ch : MacroChannel} {s w : State} {count : Byte}
    (h : Config.macroservice q.priority = some ch) (hw : transfer ch s = .ok (w, count)) :
    serveMacro q s = .ok (if count = 0#8 then endMacroservice q w else clearRequest q w) := by
  rw [serveMacro, h]
  exact bind_eq_ok.2 ⟨_, hw, rfl⟩

/-- A request whose count has reached 0 is served by the CPU (R640, R642). -/
theorem serviceMode_of_ended {s : State} {q : Source} (h : (s.sources.get q).ended = true) :
    serviceMode s q = if (s.sources.get q).context then .context else .vector := by
  simp only [serviceMode, h, Bool.not_true, Bool.and_false, Bool.false_eq_true, if_false]

/-- Settles O58: the step is `serveMacro` of the request that is due; a transfer is its datum, then the two stores to the record,
whose bytes are distinct. -/
theorem macroserviceMovesOneDatum : Obligations.MacroserviceMovesOneDatum := by
  constructor
  · intro s q hrun hb hm
    have hstep := step_of_macroservice hrun hb hm
    cases hconf : Config.macroservice q.priority with
    | none => exact hstep.trans (by rw [serveMacro_of_none hconf]; rfl)
    | some ch =>
      intro w count hw c served done raised
      refine ⟨?_, ?_⟩
      · rw [hstep, serveMacro_of_transfer hconf hw]
        by_cases hcount : count = 0#8
        · rw [if_pos hcount, if_pos hcount]; rfl
        · rw [if_neg hcount, if_neg hcount]; rfl
      · have hget : (w.sources.set q raised).get q = raised := by rw [Sources.get_set, if_pos rfl]
        rw [serviceMode_of_ended (by rw [hget])]
        simp only [hget, raised]
  · intro ch s t hs hne hlow hhigh low high counter addr port source target hdatum size
    have hport : (0xFF#8 ++ s.byte (recordAt ch.sfr) : Addr) = port := sfrPage_eq _
    have hmoved : moveDatum ch s = .ok t ∧ t.mem.wf = true ∧
        OnlyCells (target.toNat :: if ch.word then [(target + 1#16).toNat] else []) s t := by
      rw [moveDatum_ok, hport]
      rcases hdatum with ⟨hword, v, hr, hw⟩ | ⟨hword, w, hr, hw⟩
      · rw [hword]
        exact ⟨⟨v, hr, hw⟩, writeByte_wf hw hs, writeByte_only hw⟩
      · rw [hword]
        exact ⟨⟨w, hr, hw⟩, writeWord_wf hw hs, writeWord_only hw⟩
    obtain ⟨hmove, ht, hframe⟩ := hmoved
    have hadvance := advanceRecord_only ch t
    have hcount : (advanceRecord ch t).byte (recordAt ch.count) = t.byte counter :=
      hadvance.bytes _ (by simp [recordAt_ne hlow, recordAt_ne hhigh])
    have hu := hcount ▸ transfer_eq_ok hmove
    have hcells := hadvance.trans (setByte_only (advanceRecord ch t) (recordAt ch.count) (t.byte counter - 1#8))
    refine ⟨_, hu, State.byte_setByte_same _ _ _ (advanceRecord_wf ch ht), ?_, hcells.bytes, hcells.queue, ?_, hframe⟩
    · exact (congrArg BitVec.toNat (recordAddress_setByte_count hlow hhigh _ _)).trans (recordAddress_advanceRecord hne ht)
    · conv_lhs => rw [advanceRecord_eq ch t]
      rfl

end Sys2Proof.Machine
end

section
/-!
Which bytes are an instruction (O4): what the decoder takes of the bytes after the first two, the tables of second
bytes, and the first bytes.
-/

namespace Sys2Proof

open Machine (secondByteAssigned)

/-! ## What a decoder takes of the bytes that follow -/

/-- After `pre` bytes of an instruction the rest of it is a fixed number of operand bytes, whatever they hold: what a decoder of
the bytes that follow can be (`Takes.ok`, `Takes.length_eq`, `Takes.truncated`). -/
inductive Takes (pre : Nat) : (List Byte → Decoded) → Prop where
  | zero {i : Instr} (h : i.length = pre) : Takes pre fun bs => .ok (i, bs)
  | one {f : Byte → Instr} (h : ∀ a, (f a).length = pre + 1) : Takes pre fun bs => get1 bs f
  | two {f : Byte → Byte → Instr} (h : ∀ a b, (f a b).length = pre + 2) : Takes pre fun bs => get2 bs f
  | three {f : Byte → Byte → Byte → Instr} (h : ∀ a b c, (f a b c).length = pre + 3) : Takes pre fun bs => get3 bs f

theorem get1_eq_ok {bs tail : List Byte} {f : Byte → Instr} {i : Instr} :
    get1 bs f = .ok (i, tail) ↔ ∃ a, bs = a :: tail ∧ f a = i := by
  rcases bs with _ | ⟨a, bs⟩ <;> simp [get1, and_comm]

theorem get2_eq_ok {bs tail : List Byte} {f : Byte → Byte → Instr} {i : Instr} :
    get2 bs f = .ok (i, tail) ↔ ∃ a b, bs = a :: b :: tail ∧ f a b = i := by
  rcases bs with _ | ⟨a, _ | ⟨b, bs⟩⟩ <;> simp [get2, and_comm]

theorem get3_eq_ok {bs tail : List Byte} {f : Byte → Byte → Byte → Instr} {i : Instr} :
    get3 bs f = .ok (i, tail) ↔ ∃ a b c, bs = a :: b :: c :: tail ∧ f a b c = i := by
  rcases bs with _ | ⟨a, _ | ⟨b, _ | ⟨c, bs⟩⟩⟩ <;> simp [get3, and_comm]

theorem get1_truncated {bs : List Byte} (f : Byte → Instr) (h : bs.length < 1) : get1 bs f = .error .truncated := by
  rcases bs with _ | ⟨a, bs⟩
  · rfl
  · simp at h

theorem get2_truncated {bs : List Byte} (f : Byte → Byte → Instr) (h : bs.length < 2) : get2 bs f = .error .truncated := by
  rcases bs with _ | ⟨a, _ | ⟨b, bs⟩⟩
  · rfl
  · rfl
  · simp at h

theorem get3_truncated {bs : List Byte} (f : Byte → Byte → Byte → Instr) (h : bs.length < 3) :
    get3 bs f = .error .truncated := by
  rcases bs with _ | ⟨a, _ | ⟨b, _ | ⟨c, bs⟩⟩⟩
  · rfl
  · rfl
  · rfl
  · simp only [List.length_cons] at h; omega

/-- What a decoder takes are the bytes of its instruction. -/
theorem Takes.length_eq {pre : Nat} {d : List Byte → Decoded} (h : Takes pre d) {bs tail : List Byte} {i : Instr}
    (hd : d bs = .ok (i, tail)) : i.length + tail.length = pre + bs.length := by
  cases h with
  | zero h => cases hd; rw [h]
  | one h => obtain ⟨a, rfl, rfl⟩ := get1_eq_ok.1 hd; rw [h, List.length_cons]; omega
  | two h => obtain ⟨a, b, rfl, rfl⟩ := get2_eq_ok.1 hd; rw [h]; simp only [List.length_cons]; omega
  | three h => obtain ⟨a, b, c, rfl, rfl⟩ := get3_eq_ok.1 hd; rw [h]; simp only [List.length_cons]; omega

/-- Fewer bytes than the instruction has are answered as cut short. -/
theorem Takes.truncated {pre : Nat} {d : List Byte → Decoded} (h : Takes pre d) {bs cs tail : List Byte} {i : Instr}
    (hd : d bs = .ok (i, tail)) (hcs : pre + cs.length < i.length) : d cs = .error .truncated := by
  cases h with
  | zero h => cases hd; omega
  | one h => obtain ⟨a, rfl, rfl⟩ := get1_eq_ok.1 hd; exact get1_truncated _ (by have := h a; omega)
  | two h => obtain ⟨a, b, rfl, rfl⟩ := get2_eq_ok.1 hd; exact get2_truncated _ (by have := h a b; omega)
  | three h => obtain ⟨a, b, c, rfl, rfl⟩ := get3_eq_ok.1 hd; exact get3_truncated _ (by have := h a b c; omega)

/-- Three bytes are operands enough. -/
theorem Takes.ok {pre : Nat} {d : List Byte → Decoded} (h : Takes pre d) (x y z : Byte) (tail : List Byte) :
    ∃ r, d (x :: y :: z :: tail) = .ok r := by
  cases h
  all_goals exact ⟨_, rfl⟩

/-- Decoders that agree on all bytes take the same. -/
theorem Takes.congr {pre : Nat} {d e : List Byte → Decoded} (h : Takes pre d) (he : ∀ bs, e bs = d bs) : Takes pre e :=
  funext he ▸ h

/-! ## Bytes by their fields -/

theorem exists_ofNat {w : Nat} (x : BitVec w) : ∃ n, n < 2 ^ w ∧ x = BitVec.ofNat w n :=
  ⟨x.toNat, x.isLt, by simp⟩

/-- A byte is its five high and its three low bits. -/
theorem exists_op5 (b : Byte) : ∃ g f, b = op5 g f := by
  have h : op5 (b.extractLsb' 3 5) (b.extractLsb' 0 3) = b := BitVec.extractLsb'_append_extractLsb'
  exact ⟨_, _, h.symm⟩

/-- The value of a field of a byte. -/
theorem toNat_field (b : Byte) (start len : Nat) : (b.extractLsb' start len).toNat = b.toNat / 2 ^ start % 2 ^ len := by
  rw [BitVec.extractLsb'_toNat, Nat.shiftRight_eq_div_pow]

/-! ## Second bytes (R141 to R148) -/

/-- How the decoder goes on after a first and a second byte: an assigned one takes the rest of its instruction, any other is
refused. -/
def Continues (b1 b2 : Byte) (d : List Byte → Decoded) : Prop :=
  if secondByteAssigned b1 b2 then Takes 2 d else ∀ bs, d bs = .error (.unassignedSecond b1 b2)

/-- The tables of second bytes by their five high and three low bits (R141 to R146). -/
noncomputable def secondTables : List (Byte × (Byte → BitVec 5 → BitVec 3 → List Byte → Decoded)) :=
  [(0x01#8, second01), (0x02#8, second02), (0x03#8, second03), (0x05#8, second05), (0x07#8, second07), (0x08#8, second08),
    (0x09#8, second09), (0x15#8, second15)]

section
variable {b1 : Byte} {table : Byte → BitVec 5 → BitVec 3 → List Byte → Decoded} (h : (b1, table) ∈ secondTables)
include h

/-- Row by row and, where the fields of a row are not of one kind, field by field: a second byte is refused, or the operand bytes
behind it are fixed. -/
theorem secondTable_form (b2 : Byte) (g : BitVec 5) (f : BitVec 3) :
    (∀ bs, table b2 g f bs = .error (.unassignedSecond b1 b2)) ∨ Takes 2 (table b2 g f) := by
  obtain ⟨g, hg, rfl⟩ := exists_ofNat g
  simp only [secondTables, List.mem_cons, Prod.mk.injEq, List.not_mem_nil, or_false] at h
  rcases h with ⟨rfl, rfl⟩ | ⟨rfl, rfl⟩ | ⟨rfl, rfl⟩ | ⟨rfl, rfl⟩ | ⟨rfl, rfl⟩ | ⟨rfl, rfl⟩ | ⟨rfl, rfl⟩ | ⟨rfl, rfl⟩
  all_goals interval_cases g
  any_goals exact .inl fun _ => rfl
  any_goals (refine .inr ?_; constructor; intros; rfl)
  all_goals
    obtain ⟨f, hf, rfl⟩ := exists_ofNat f
    interval_cases f
  any_goals exact .inl fun _ => rfl
  all_goals (refine .inr ?_; constructor; intros; rfl)

/-- The assigned second bytes of each table are those with an entry, which three operand bytes complete. -/
theorem secondByteAssigned_table (b2 : Byte) :
    secondByteAssigned b1 b2 = (table b2 (b2.extractLsb' 3 5) (b2.extractLsb' 0 3) [0#8, 0#8, 0#8]).isOk := by
  have hall : (secondTables.all fun e => (List.range 256).all fun n =>
      let b := BitVec.ofNat 8 n
      secondByteAssigned e.1 b == (e.2 b (b.extractLsb' 3 5) (b.extractLsb' 0 3) [0#8, 0#8, 0#8]).isOk) = true := by
    decide +kernel
  obtain ⟨n, hn, rfl⟩ := exists_ofNat b2
  exact eq_of_beq (List.all_eq_true.1 (List.all_eq_true.1 hall _ h) n (List.mem_range.2 hn))

theorem secondTable_continues (b2 : Byte) : Continues b1 b2 (table b2 (b2.extractLsb' 3 5) (b2.extractLsb' 0 3)) := by
  rw [Continues, secondByteAssigned_table h b2]
  rcases secondTable_form h b2 (b2.extractLsb' 3 5) (b2.extractLsb' 0 3) with hrefused | htakes
  · rw [hrefused]
    exact hrefused
  · obtain ⟨r, hr⟩ := htakes.ok 0#8 0#8 0#8 []
    rw [hr]
    exact htakes

end

/-- The register byte (R148): a pair form where there is one. -/
theorem getRegs_continues {b1 b2 : Byte} (byteForm : RegNo → Reg8 → Instr) (pairForm : Option (PairNo → PairNo → Instr))
    (hbyte : ∀ r r1, (byteForm r r1).length = 2) (hpair : ∀ f ∈ pairForm, ∀ k j, (f k j).length = 2)
    (hassigned : secondByteAssigned b1 b2 =
      (decide (b2.toNat % 16 < 8) || pairForm.isSome && decide (b2.toNat / 8 % 4 = 1))) :
    Continues b1 b2 fun bs => getRegs b1 (b2 :: bs) byteForm pairForm := by
  have hthree : b2.extractLsb' 3 1 = 0#1 ↔ b2.toNat % 16 < 8 := by
    rw [← BitVec.toNat_inj, toNat_field, BitVec.toNat_zero]; omega
  have hfour : b2.extractLsb' 4 1 = 0#1 ↔ b2.toNat / 16 % 2 = 0 := by
    rw [← BitVec.toNat_inj, toNat_field, BitVec.toNat_zero]; omega
  simp only [Continues, hassigned, getRegs, hthree, hfour]
  by_cases h8 : b2.toNat % 16 < 8
  · simp only [h8, if_true, decide_true, Bool.true_or]
    exact .zero (hbyte _ _)
  · simp only [h8, if_false, decide_false, Bool.false_or]
    by_cases h16 : b2.toNat / 16 % 2 = 0
    · simp only [h16, if_true, show b2.toNat / 8 % 4 = 1 by omega, decide_true, Bool.and_true]
      cases pairForm with
      | none => exact fun _ => rfl
      | some f => exact .zero (hpair f rfl _ _)
    · simp only [h16, if_false, show ¬b2.toNat / 8 % 4 = 1 by omega, decide_false, Bool.and_false, Bool.false_eq_true]
      exact fun _ => trivial

/-- The `mem` field under a mode with so many operands: undefined, or an operand with no, one or two offset bytes (R101 to R104). -/
inductive Offsets (modes : Nat) (mem : BitVec 3) (d : List Byte → Option (Option (MemOperand × List Byte))) : Prop where
  | undefined (hmem : ¬mem.toNat < modes) (h : ∀ bs, d bs = none)
  | zero (hmem : mem.toNat < modes) (m : MemOperand) (hm : m.length = 2) (h : ∀ bs, d bs = some (some (m, bs)))
  | one (hmem : mem.toNat < modes) (m : Byte → MemOperand) (hm : ∀ b, (m b).length = 3) (hnil : d [] = some none)
    (h : ∀ b tl, d (b :: tl) = some (some (m b, tl)))
  | two (hmem : mem.toNat < modes) (m : Word → MemOperand) (hm : ∀ w, (m w).length = 4) (hnil : d [] = some none)
    (hone : ∀ b, d [b] = some none) (h : ∀ l h tl, d (l :: h :: tl) = some (some (m (Word.ofBytes l h), tl)))

theorem offsets16 (mem : BitVec 3) : Offsets 8 mem (memOperand 0x16#8 mem) := by
  obtain ⟨n, hn, rfl⟩ := exists_ofNat mem
  interval_cases n
  all_goals exact .zero (by decide) _ rfl fun _ => rfl

theorem offsets17 (mem : BitVec 3) : Offsets 6 mem (memOperand 0x17#8 mem) := by
  obtain ⟨n, hn, rfl⟩ := exists_ofNat mem
  interval_cases n
  iterate 6
    · exact .zero (by decide) _ rfl fun _ => rfl
  all_goals exact .undefined (by decide) fun _ => rfl

theorem offsets06 (mem : BitVec 3) : Offsets 5 mem (memOperand 0x06#8 mem) := by
  obtain ⟨n, hn, rfl⟩ := exists_ofNat mem
  interval_cases n
  iterate 5
    · exact .one (by decide) _ (fun _ => rfl) rfl fun _ _ => rfl
  all_goals exact .undefined (by decide) fun _ => rfl

theorem offsets0A (mem : BitVec 3) : Offsets 4 mem (memOperand 0x0A#8 mem) := by
  obtain ⟨n, hn, rfl⟩ := exists_ofNat mem
  interval_cases n
  iterate 4
    · exact .two (by decide) _ (fun _ => rfl) rfl (fun _ => rfl) fun _ _ _ => rfl
  all_goals exact .undefined (by decide) fun _ => rfl

/-- The operations of R147, by the direction bit and the low nibble. -/
theorem memOperation_isSome : ∀ (d : BitVec 1) (op : BitVec 4),
    (memOperation d op).isSome = (op.toNat == 0 || decide (8 ≤ op.toNat) || (op.toNat == 4 && decide (d = 0#1))) := by
  decide

/-- An operation of R147 on a memory operand has the length of the operand's form. -/
theorem memOperation_length {d : BitVec 1} {op : BitVec 4} {f : MemOperand → Instr} (h : memOperation d op = some f)
    (m : MemOperand) : (f m).length = m.length := by
  unfold memOperation memLoads memStores at h
  split at h
  all_goals
    split at h
    all_goals cases h
  all_goals exact Machine.memBytes_length _ _ m

/-- The second byte of a `mem` form is assigned where it has an operation and an operand. -/
theorem memByteAssigned_eq (modes : Nat) (b : Byte) : secondByteAssigned.memByteAssigned modes b.toNat =
    (decide ((b.extractLsb' 4 3).toNat < modes) && (memOperation (b.extractLsb' 7 1) (b.extractLsb' 0 4)).isSome) := by
  have hd : b.extractLsb' 7 1 = 0#1 ↔ b.toNat < 0x80 := by
    rw [← BitVec.toNat_inj, toNat_field, BitVec.toNat_zero]; omega
  rw [memOperation_isSome]
  simp only [hd, toNat_field, secondByteAssigned.memByteAssigned]
  norm_num

/-- The `mem` forms (R147). -/
theorem decodeMem_continues {mode b2 : Byte} {modes : Nat} (hmode : ∀ mem, Offsets modes mem (memOperand mode mem))
    (hassigned : secondByteAssigned mode b2 = secondByteAssigned.memByteAssigned modes b2.toNat) :
    Continues mode b2 fun bs => decodeMem mode (b2 :: bs) := by
  rw [Continues, hassigned, memByteAssigned_eq]
  simp only [decodeMem]
  cases hop : memOperation (b2.extractLsb' 7 1) (b2.extractLsb' 0 4) with
  | none =>
    simp only [Option.isSome_none, Bool.and_false, Bool.false_eq_true, if_false]
    exact fun _ => trivial
  | some f =>
    have hlength := memOperation_length hop
    simp only [Option.isSome_some, Bool.and_true, decide_eq_true_eq]
    cases hmode (b2.extractLsb' 4 3) with
    | undefined hmem h =>
      rw [if_neg hmem]
      exact fun bs => by rw [h]
    | zero hmem m hm h =>
      rw [if_pos hmem]
      simp only [h]
      exact .zero ((hlength m).trans hm)
    | one hmem m hm hnil h =>
      rw [if_pos hmem]
      refine .congr (.one (f := fun b => f (m b)) fun b => (hlength _).trans (hm b)) fun bs => ?_
      cases bs with
      | nil => rw [hnil]; rfl
      | cons b tl => rw [h]; rfl
    | two hmem m hm hnil hone h =>
      rw [if_pos hmem]
      refine .congr (.two (f := fun l h => f (m (Word.ofBytes l h))) fun l h => (hlength _).trans (hm _)) fun bs => ?_
      rcases bs with _ | ⟨l, _ | ⟨h', tl⟩⟩
      · rw [hnil]; rfl
      · rw [hone]; rfl
      · rw [h]; rfl

/-! ## First bytes (R140, R148, R149) -/

/-- The first bytes whose meaning is in the second byte (R141 to R148). -/
def leadBytes : List Byte :=
  [0x01#8, 0x02#8, 0x03#8, 0x05#8, 0x07#8, 0x08#8, 0x09#8, 0x15#8, 0x06#8, 0x0A#8, 0x16#8, 0x17#8, 0x24#8, 0x25#8, 0x88#8, 0x8A#8,
    0x8F#8, 0x89#8, 0x8B#8, 0x8C#8, 0x8D#8, 0x8E#8]

/-- A lead byte alone is cut short; behind it the second byte decides. -/
theorem decode_lead {b1 : Byte} (h : b1 ∈ leadBytes) :
    decode [b1] = .error .truncated ∧ ∀ b2, Continues b1 b2 fun bs => decode (b1 :: b2 :: bs) := by
  simp only [leadBytes, List.mem_cons, List.not_mem_nil, or_false] at h
  rcases h with rfl | rfl | rfl | rfl | rfl | rfl | rfl | rfl | rfl | rfl | rfl | rfl | rfl | rfl | rfl | rfl | rfl | rfl | rfl |
    rfl | rfl | rfl
  all_goals refine ⟨rfl, fun b2 => ?_⟩
  · exact secondTable_continues (table := second01) (by simp [secondTables]) b2
  · exact secondTable_continues (table := second02) (by simp [secondTables]) b2
  · exact secondTable_continues (table := second03) (by simp [secondTables]) b2
  · exact secondTable_continues (table := second05) (by simp [secondTables]) b2
  · exact secondTable_continues (table := second07) (by simp [secondTables]) b2
  · exact secondTable_continues (table := second08) (by simp [secondTables]) b2
  · exact secondTable_continues (table := second09) (by simp [secondTables]) b2
  · exact secondTable_continues (table := second15) (by simp [secondTables]) b2
  · exact decodeMem_continues offsets06 rfl
  · exact decodeMem_continues offsets0A rfl
  · exact decodeMem_continues offsets16 rfl
  · exact decodeMem_continues offsets17 rfl
  · exact getRegs_continues .movRR1 (some .movwRpRp1) (fun _ _ => rfl) (by rintro f ⟨⟩ k j; rfl) rfl
  · exact getRegs_continues .xchRR1 (some .xchwRpRp1) (fun _ _ => rfl) (by rintro f ⟨⟩ k j; rfl) rfl
  · exact getRegs_continues .addRR1 (some .addwRpRp1) (fun _ _ => rfl) (by rintro f ⟨⟩ k j; rfl) rfl
  · exact getRegs_continues .subRR1 (some .subwRpRp1) (fun _ _ => rfl) (by rintro f ⟨⟩ k j; rfl) rfl
  · exact getRegs_continues .cmpRR1 (some .cmpwRpRp1) (fun _ _ => rfl) (by rintro f ⟨⟩ k j; rfl) rfl
  · exact getRegs_continues .addcRR1 none (fun _ _ => rfl) nofun (Bool.or_false _).symm
  · exact getRegs_continues .subcRR1 none (fun _ _ => rfl) nofun (Bool.or_false _).symm
  · exact getRegs_continues .andRR1 none (fun _ _ => rfl) nofun (Bool.or_false _).symm
  · exact getRegs_continues .xorRR1 none (fun _ _ => rfl) nofun (Bool.or_false _).symm
  · exact getRegs_continues .orRR1 none (fun _ _ => rfl) nofun (Bool.or_false _).symm

theorem secondByteAssigned_of_not_lead {b1 : Byte} (h : b1 ∉ leadBytes) (b2 : Byte) : secondByteAssigned b1 b2 = true := by
  have hne {n : Nat} (e : b1.toNat = n) : BitVec.ofNat 8 n ∉ leadBytes := by
    rwa [← e, BitVec.ofNat_toNat, BitVec.setWidth_eq]
  unfold secondByteAssigned
  split
  case h_23 => rfl
  all_goals
    next e => exact absurd (by decide) (hne e)

/-- The shift byte (R149): each of the four forms has it as its second byte. -/
theorem getShift_takes {rotateCarry rotate shift : Reg8 → BitVec 3 → Instr} {shiftPair : PairNo → BitVec 3 → Instr}
    (hrc : ∀ r n, (rotateCarry r n).length = 2) (hr : ∀ r n, (rotate r n).length = 2) (hs : ∀ r n, (shift r n).length = 2)
    (hp : ∀ k n, (shiftPair k n).length = 2) : Takes 1 fun bs => getShift bs rotateCarry rotate shift shiftPair := by
  refine Takes.one fun b => ?_
  dsimp only
  split_ifs
  · exact hrc _ _
  · exact hr _ _
  · exact hs _ _
  · exact hp _ _

/-- Row by row and, where the fields of a row are not of one kind, field by field: every other first byte but 5FH is an instruction with
fixed operand bytes. -/
theorem first_takes (g : BitVec 5) (f : BitVec 3) (hp : op5 g f ∉ leadBytes) (hn : op5 g f ≠ 0x5F#8) :
    Takes 1 (first (op5 g f) g f) := by
  obtain ⟨g, hg, rfl⟩ := exists_ofNat g
  interval_cases g
  any_goals (constructor; intros; rfl)
  all_goals
    obtain ⟨f, hf, rfl⟩ := exists_ofNat f
    interval_cases f
  any_goals (refine absurd ?_ hp; decide)
  any_goals exact absurd rfl hn
  any_goals (constructor; intros; rfl)
  -- 0BH, 10H to 13H and 2BH, whose offset can name SP or PSW; then the shift bytes of 30H and 31H.
  · exact .three fun o l h => by split <;> rfl
  iterate 4
    · exact .one fun o => by split_ifs <;> rfl
  · exact .two fun o d => by split_ifs <;> rfl
  · exact getShift_takes (fun _ _ => rfl) (fun _ _ => rfl) (fun _ _ => rfl) fun _ _ => rfl
  · exact getShift_takes (fun _ _ => rfl) (fun _ _ => rfl) (fun _ _ => rfl) fun _ _ => rfl

/-! ## The obligation -/

theorem decode_whole {b1 : Byte} (hp : b1 ∉ leadBytes) (hn : b1 ≠ 0x5F#8) : Takes 1 fun bs => decode (b1 :: bs) := by
  obtain ⟨g, f, rfl⟩ := exists_op5 b1
  exact (first_takes g f hp hn).congr fun bs => decode_op5 g f bs

/-- What the decoder answers has the length of the bytes it took, and fewer are answered as cut short. -/
theorem decode_takes_length {bs tail : List Byte} {i : Instr} (h : decode bs = .ok (i, tail)) :
    i.length + tail.length = bs.length ∧ ∀ n, n < i.length → decode (bs.take n) = .error .truncated := by
  rcases bs with _ | ⟨b1, bs⟩
  · cases h
  by_cases hn : b1 = 0x5F#8
  · subst hn
    cases h
  by_cases hp : b1 ∈ leadBytes
  · obtain ⟨hone, htwo⟩ := decode_lead hp
    rcases bs with _ | ⟨b2, bs⟩
    · rw [hone] at h
      cases h
    have hsecond := htwo b2
    unfold Continues at hsecond
    split at hsecond
    · refine ⟨by rw [hsecond.length_eq h, List.length_cons, List.length_cons]; omega, fun n hlt => ?_⟩
      rcases n with _ | _ | n
      · rfl
      · exact hone
      · exact hsecond.truncated h (by have := List.length_take_le n bs; omega)
    · cases (hsecond bs).symm.trans h
  · have hwhole := decode_whole hp hn
    refine ⟨by rw [hwhole.length_eq h, List.length_cons]; omega, fun n hlt => ?_⟩
    rcases n with _ | n
    · rfl
    · exact hwhole.truncated h (by have := List.length_take_le n bs; omega)

/-- Settles O4: a first byte is a lead byte, whose second bytes are the assigned ones, or takes fixed operand bytes. -/
theorem unassignedBytesAreRejected : Obligations.UnassignedBytesAreRejected := by
  refine ⟨fun tail => rfl, fun b1 b2 tail hn ha => ?refused, fun b1 b2 x y z tail hn ha => ?assigned,
    fun bs tail i h => decode_takes_length h⟩
  case refused =>
    have hp : b1 ∈ leadBytes := by
      by_contra hp
      rw [secondByteAssigned_of_not_lead hp] at ha
      cases ha
    have hsecond := (decode_lead hp).2 b2
    rw [Continues, ha] at hsecond
    exact hsecond tail
  case assigned =>
    by_cases hp : b1 ∈ leadBytes
    · have hsecond := (decode_lead hp).2 b2
      rw [Continues, ha, if_pos rfl] at hsecond
      exact hsecond.ok x y z tail
    · exact (decode_whole hp hn).ok b2 x y (z :: tail)

end Sys2Proof
end

section
/-!
The decoder and the encoder undo each other (O1, O2): what the decoder answers has the bytes it read, first for the operands, then for
the tables of second bytes, then for the first bytes.
-/

namespace Sys2Proof

/-! ## A decoder that answers what it read -/

/-- What the decoder `d` of the bytes after `pre` answers encodes to `pre` and the bytes that `d` took. -/
def Reencodes (pre : List Byte) (d : List Byte → Decoded) : Prop :=
  ∀ bs tail i, d bs = .ok (i, tail) → encode i ++ tail = pre ++ bs

namespace Reencodes
variable {pre : List Byte}

theorem refused {r : Reject} : Reencodes pre fun _ => .error r := nofun

theorem whole {i : Instr} (h : encode i = pre) : Reencodes pre fun bs => .ok (i, bs) := by
  rintro bs _ _ ⟨⟩
  rw [h]

theorem cons {d : List Byte → Decoded} {r : Reject} (hnil : d [] = .error r)
    (hcons : ∀ b, Reencodes (pre ++ [b]) fun bs => d (b :: bs)) : Reencodes pre d := by
  intro bs tail i h
  cases bs with
  | nil => cases hnil.symm.trans h
  | cons b bs => rw [hcons b bs tail i h, List.append_assoc, List.singleton_append]

theorem one {f : Byte → Instr} (h : ∀ a, encode (f a) = pre ++ [a]) : Reencodes pre fun bs => get1 bs f :=
  .cons rfl fun a => .whole (h a)

theorem two {f : Byte → Byte → Instr} (h : ∀ a b, encode (f a b) = pre ++ [a, b]) : Reencodes pre fun bs => get2 bs f :=
  .cons rfl fun a => .cons rfl fun b => .whole ((h a b).trans (List.append_cons pre a [b]))

theorem three {f : Byte → Byte → Byte → Instr} (h : ∀ a b c, encode (f a b c) = pre ++ [a, b, c]) :
    Reencodes pre fun bs => get3 bs f := by
  intro bs tail i hd
  obtain ⟨a, b, c, rfl, rfl⟩ := get3_eq_ok.1 hd
  rw [h, List.append_assoc, List.cons_append, List.cons_append, List.singleton_append]

/-- A word is written in the two bytes it was read from. -/
theorem word {f : Word → Instr} (h : ∀ w, encode (f w) = pre ++ [Word.lo w, Word.hi w]) :
    Reencodes pre fun bs => get2 bs fun l h => f (Word.ofBytes l h) :=
  .two fun l u => by rw [h, Machine.lo_ofBytes, Machine.hi_ofBytes]

/-- An offset byte, then a word in the two bytes it was read from. -/
theorem offsetWord {f : Byte → Word → Instr} (h : ∀ o w, encode (f o w) = pre ++ [o, Word.lo w, Word.hi w]) :
    Reencodes pre fun bs => get3 bs fun o l h => f o (Word.ofBytes l h) :=
  .three fun o l u => by rw [h, Machine.lo_ofBytes, Machine.hi_ofBytes]

end Reencodes

/-! ## Fields of a byte put together again -/

theorem fields_append {a b c : Nat} (x : BitVec (a + b + c)) :
    x.extractLsb' (c + b) a ++ x.extractLsb' c b ++ x.extractLsb' 0 c = x := by
  rw [BitVec.extractLsb'_append_extractLsb'_eq_extractLsb' rfl, BitVec.extractLsb'_append_extractLsb']

theorem qOfPair_pairOfQ : ∀ q : BitVec 3, qOfPair (pairOfQ q) = q := by decide

theorem regByte_of_fields {b : Byte} (h : b.extractLsb' 3 1 = 0#1) : regByte (b.extractLsb' 4 4) (b.extractLsb' 0 3) = b := by
  rw [regByte, ← h]
  exact fields_append (a := 4) (b := 1) (c := 3) b

theorem pairByte_of_fields {b : Byte} (hthree : b.extractLsb' 3 1 ≠ 0#1) (hfour : b.extractLsb' 4 1 = 0#1) :
    pairByte (b.extractLsb' 5 3) (pairOfQ (b.extractLsb' 0 3)) = b := by
  have hmid : b.extractLsb' 3 2 = 0b01#2 := by
    have hone : b.extractLsb' 3 1 = 1#1 := (BitVec.eq_zero_or_eq_one _).resolve_left hthree
    have happend : b.extractLsb' 4 1 ++ b.extractLsb' 3 1 = b.extractLsb' 3 2 :=
      BitVec.extractLsb'_append_extractLsb'_eq_extractLsb' rfl
    rw [← happend, hfour, hone]
    rfl
  rw [pairByte, qOfPair_pairOfQ, ← hmid]
  exact fields_append (a := 3) (b := 2) (c := 3) b

/-! ## Register, shift and `mem` forms (R147 to R149) -/

theorem getRegs_reencodes {b1 : Byte} (byteForm : RegNo → Reg8 → Instr) (pairForm : Option (PairNo → PairNo → Instr))
    (hbyte : ∀ r r1, encode (byteForm r r1) = [b1, regByte r r1])
    (hpair : ∀ f ∈ pairForm, ∀ k j, encode (f k j) = [b1, pairByte k j]) :
    Reencodes [b1] fun bs => getRegs b1 bs byteForm pairForm := by
  refine .cons rfl fun b => ?_
  simp only [getRegs]
  split_ifs with hthree hfour
  · exact .whole (by rw [hbyte, regByte_of_fields hthree]; rfl)
  · cases pairForm with
    | none => exact .refused
    | some f => exact .whole (by rw [hpair f rfl, pairByte_of_fields hthree hfour]; rfl)
  · exact .refused

theorem getShift_reencodes {b1 : Byte} {rotateCarry rotate shift : Reg8 → BitVec 3 → Instr}
    {shiftPair : PairNo → BitVec 3 → Instr} (hrc : ∀ r n, encode (rotateCarry r n) = [b1, shiftByte 0b00#2 n r])
    (hr : ∀ r n, encode (rotate r n) = [b1, shiftByte 0b01#2 n r])
    (hs : ∀ r n, encode (shift r n) = [b1, shiftByte 0b10#2 n r])
    (hp : ∀ k n, encode (shiftPair k n) = [b1, shiftByte 0b11#2 n (qOfPair k)]) :
    Reencodes [b1] fun bs => getShift bs rotateCarry rotate shift shiftPair := by
  refine .one fun b => ?_
  have hb : shiftByte (b.extractLsb' 6 2) (b.extractLsb' 3 3) (b.extractLsb' 0 3) = b :=
    fields_append (a := 2) (b := 3) (c := 3) b
  have hthree : ∀ k : BitVec 2, k ≠ 0#2 → k ≠ 1#2 → k ≠ 2#2 → k = 3#2 := by decide
  dsimp only
  split_ifs with h0 h1 h2
  · rw [hrc, ← h0, hb]; rfl
  · rw [hr, ← h1, hb]; rfl
  · rw [hs, ← h2, hb]; rfl
  · rw [hp, qOfPair_pairOfQ, ← hthree _ h0 h1 h2, hb]; rfl

theorem memOperation_encode {d : BitVec 1} {op : BitVec 4} {f : MemOperand → Instr} (h : memOperation d op = some f)
    (m : MemOperand) : encode (f m) = memBytes d op m := by
  unfold memOperation memLoads memStores at h
  split at h
  case' isTrue h0 => subst h0
  case' isFalse h0 => obtain rfl := (BitVec.eq_zero_or_eq_one d).resolve_left h0
  all_goals
    split at h
    all_goals cases h
  all_goals rfl

/-- The modes of the `mem` forms (R138). -/
def memModes : List Byte := [0x06#8, 0x0A#8, 0x16#8, 0x17#8]

/-- The operand of a `mem` form names its mode, its field and the offset bytes it was read from. -/
theorem memOperand_eq_ok {mode : Byte} (hmode : mode ∈ memModes) {mem : BitVec 3} {bs rest : List Byte} {m : MemOperand}
    (h : memOperand mode mem bs = some (some (m, rest))) : m.mode = mode ∧ m.code = mem ∧ m.offsets ++ rest = bs := by
  simp only [memModes, List.mem_cons, List.not_mem_nil, or_false] at hmode
  obtain ⟨mem, hmem, rfl⟩ := exists_ofNat mem
  rcases hmode with rfl | rfl | rfl | rfl
  -- 16H and 17H have no offset bytes, 06H has one, 0AH has two.
  case inr.inr.inl | inr.inr.inr =>
    interval_cases mem
    all_goals cases h
    all_goals exact ⟨rfl, rfl, rfl⟩
  case inl =>
    interval_cases mem
    all_goals
      cases bs
      all_goals cases h
    all_goals exact ⟨rfl, rfl, rfl⟩
  case inr.inl =>
    rcases bs with _ | ⟨l, _ | ⟨u, tl⟩⟩
    all_goals
      interval_cases mem
      all_goals cases h
    all_goals exact ⟨rfl, rfl, by simp only [MemOperand.offsets, Machine.lo_ofBytes, Machine.hi_ofBytes]; rfl⟩

theorem decodeMem_reencodes {mode : Byte} (hmode : mode ∈ memModes) : Reencodes [mode] (decodeMem mode) := by
  refine .cons rfl fun b bs tail i h => ?_
  simp only [decodeMem] at h
  split at h
  case h_1 f m rest hop hmem =>
    cases h
    obtain ⟨hm, hcode, hoffsets⟩ := memOperand_eq_ok hmode hmem
    have hb : b.extractLsb' 7 1 ++ b.extractLsb' 4 3 ++ b.extractLsb' 0 4 = b := fields_append (a := 1) (b := 3) (c := 4) b
    rw [memOperation_encode hop, memBytes, hm, hcode, hb, List.cons_append, List.cons_append, hoffsets]
    rfl
  all_goals cases h

/-! ## Second bytes (R141 to R146) -/

/-- Row by row and, where the fields of a row are not of one kind, field by field: a second byte is refused, or its instruction has it
and the operand bytes behind it. -/
theorem secondTable_reencodes {b1 : Byte} {table : Byte → BitVec 5 → BitVec 3 → List Byte → Decoded}
    (h : (b1, table) ∈ secondTables) (b2 : Byte) (g : BitVec 5) (f : BitVec 3) : Reencodes [b1, op5 g f] (table b2 g f) := by
  obtain ⟨g, hg, rfl⟩ := exists_ofNat g
  simp only [secondTables, List.mem_cons, Prod.mk.injEq, List.not_mem_nil, or_false] at h
  rcases h with ⟨rfl, rfl⟩ | ⟨rfl, rfl⟩ | ⟨rfl, rfl⟩ | ⟨rfl, rfl⟩ | ⟨rfl, rfl⟩ | ⟨rfl, rfl⟩ | ⟨rfl, rfl⟩ | ⟨rfl, rfl⟩
  all_goals interval_cases g
  any_goals exact .refused
  any_goals exact .whole rfl
  any_goals exact .one fun _ => rfl
  any_goals exact .two fun _ _ => rfl
  all_goals
    obtain ⟨f, hf, rfl⟩ := exists_ofNat f
    interval_cases f
  any_goals exact .refused
  any_goals exact .whole rfl
  any_goals exact .one fun _ => rfl
  any_goals exact .two fun _ _ => rfl
  any_goals exact .word (f := (.movwAddr16Rp1 · _)) fun _ => rfl
  any_goals exact .word fun _ => rfl
  all_goals exact .offsetWord fun _ _ => rfl

/-- The bytes after a first byte that announces one of these tables. -/
theorem table_reencodes {b1 : Byte} {table : Byte → BitVec 5 → BitVec 3 → List Byte → Decoded}
    (h : (b1, table) ∈ secondTables) {d : List Byte → Decoded} (hnil : d [] = .error .truncated)
    (hcons : ∀ b2 bs, d (b2 :: bs) = table b2 (b2.extractLsb' 3 5) (b2.extractLsb' 0 3) bs) : Reencodes [b1] d := by
  refine .cons hnil fun b2 bs tail i hd => ?_
  obtain ⟨g, f, rfl⟩ := exists_op5 b2
  have htable := (hcons _ bs).symm.trans hd
  rw [op5_group, op5_field] at htable
  exact secondTable_reencodes h _ g f bs tail i htable

/-! ## First bytes (R140) -/

/-- The first bytes whose meaning is in the second byte. -/
theorem lead_reencodes {b1 : Byte} (h : b1 ∈ leadBytes) : Reencodes [b1] fun bs => decode (b1 :: bs) := by
  simp only [leadBytes, List.mem_cons, List.not_mem_nil, or_false] at h
  rcases h with rfl | rfl | rfl | rfl | rfl | rfl | rfl | rfl | rfl | rfl | rfl | rfl | rfl | rfl | rfl | rfl | rfl | rfl | rfl |
    rfl | rfl | rfl
  · exact table_reencodes (table := second01) (by simp [secondTables]) rfl fun _ _ => rfl
  · exact table_reencodes (table := second02) (by simp [secondTables]) rfl fun _ _ => rfl
  · exact table_reencodes (table := second03) (by simp [secondTables]) rfl fun _ _ => rfl
  · exact table_reencodes (table := second05) (by simp [secondTables]) rfl fun _ _ => rfl
  · exact table_reencodes (table := second07) (by simp [secondTables]) rfl fun _ _ => rfl
  · exact table_reencodes (table := second08) (by simp [secondTables]) rfl fun _ _ => rfl
  · exact table_reencodes (table := second09) (by simp [secondTables]) rfl fun _ _ => rfl
  · exact table_reencodes (table := second15) (by simp [secondTables]) rfl fun _ _ => rfl
  iterate 4
    · exact decodeMem_reencodes (by decide)
  · exact getRegs_reencodes .movRR1 (some .movwRpRp1) (fun _ _ => rfl) (by rintro f ⟨⟩ k j; rfl)
  · exact getRegs_reencodes .xchRR1 (some .xchwRpRp1) (fun _ _ => rfl) (by rintro f ⟨⟩ k j; rfl)
  · exact getRegs_reencodes .addRR1 (some .addwRpRp1) (fun _ _ => rfl) (by rintro f ⟨⟩ k j; rfl)
  · exact getRegs_reencodes .subRR1 (some .subwRpRp1) (fun _ _ => rfl) (by rintro f ⟨⟩ k j; rfl)
  · exact getRegs_reencodes .cmpRR1 (some .cmpwRpRp1) (fun _ _ => rfl) (by rintro f ⟨⟩ k j; rfl)
  · exact getRegs_reencodes .addcRR1 none (fun _ _ => rfl) nofun
  · exact getRegs_reencodes .subcRR1 none (fun _ _ => rfl) nofun
  · exact getRegs_reencodes .andRR1 none (fun _ _ => rfl) nofun
  · exact getRegs_reencodes .xorRR1 none (fun _ _ => rfl) nofun
  · exact getRegs_reencodes .orRR1 none (fun _ _ => rfl) nofun

/-- CALLF: the high bits of its address are the field of the first byte. -/
theorem callf_reencodes (f : BitVec 3) : Reencodes [op5 18#5 f] (first (op5 18#5 f) 18#5 f) :=
  .one fun _ => congrArg₂ ([op5 18#5 ·, ·]) BitVec.extractLsb'_append_eq_left BitVec.extractLsb'_append_eq_right

/-- MOV with PSWL, PSWH or an `sfr`, by the offset byte. -/
theorem pswOffset_reencodes {pre : List Byte} {low high : Instr} {sfr : Byte → Instr} (hlow : encode low = pre ++ [0xFE#8])
    (hhigh : encode high = pre ++ [0xFF#8]) (hsfr : ∀ o, encode (sfr o) = pre ++ [o]) :
    Reencodes pre fun bs => get1 bs fun o => if o = 0xFE#8 then low else if o = 0xFF#8 then high else sfr o := by
  refine .one fun o => ?_
  split_ifs with hfe hff
  · rw [hlow, hfe]
  · rw [hhigh, hff]
  · exact hsfr o

/-- MOVW with SP or an `sfrp`, by the offset byte. -/
theorem spOffset_reencodes {pre : List Byte} {sp : Instr} {sfrp : Byte → Instr} (hsp : encode sp = pre ++ [0xFC#8])
    (hsfrp : ∀ o, encode (sfrp o) = pre ++ [o]) :
    Reencodes pre fun bs => get1 bs fun o => if o = 0xFC#8 then sp else sfrp o := by
  refine .one fun o => ?_
  split_ifs with hfc
  · rw [hsp, hfc]
  · exact hsfrp o

/-- The first bytes that are no lead byte, row by row and, where the fields of a row are not of one kind, field by field. -/
theorem first_reencodes (g : BitVec 5) (f : BitVec 3) (hp : op5 g f ∉ leadBytes) :
    Reencodes [op5 g f] (first (op5 g f) g f) := by
  obtain ⟨g, hg, rfl⟩ := exists_ofNat g
  interval_cases g
  any_goals exact callf_reencodes f
  any_goals exact .whole rfl
  any_goals exact .one fun _ => rfl
  any_goals exact .two fun _ _ => rfl
  all_goals
    obtain ⟨f, hf, rfl⟩ := exists_ofNat f
    interval_cases f
  any_goals (refine absurd ?_ hp; decide)
  any_goals exact .whole rfl
  any_goals exact .one fun _ => rfl
  any_goals exact .two fun _ _ => rfl
  any_goals exact .word fun _ => rfl
  any_goals exact .offsetWord fun _ _ => rfl
  -- 0BH, 10H to 13H and 2BH, whose offset can name SP or PSW; then the shift bytes of 30H and 31H, and 5FH.
  · refine .offsetWord (f := fun o w => if o = 0xFC#8 then .movwSpWord w else .movwSfrpWord o w) fun o w => ?_
    split_ifs with hsp
    · rw [hsp]; rfl
    · rfl
  · exact pswOffset_reencodes rfl rfl fun _ => rfl
  · exact spOffset_reencodes rfl fun _ => rfl
  · exact pswOffset_reencodes rfl rfl fun _ => rfl
  · exact spOffset_reencodes rfl fun _ => rfl
  · refine .two fun o d => ?_
    split_ifs with hlow hhigh
    · rw [hlow]; rfl
    · rw [hhigh]; rfl
    · rfl
  · exact getShift_reencodes (fun _ _ => rfl) (fun _ _ => rfl) (fun _ _ => rfl) fun _ _ => rfl
  · exact getShift_reencodes (fun _ _ => rfl) (fun _ _ => rfl) (fun _ _ => rfl) fun _ _ => rfl
  · exact .refused

/-! ## The obligations -/

/-- Settles O1, instruction by instruction. -/
theorem decodeUndoesEncode : Obligations.DecodeUndoesEncode := decode_encode

/-- Settles O2: a first byte is a lead byte, whose second byte decides, or an instruction of the table of first bytes. -/
theorem encodeUndoesDecode : Obligations.EncodeUndoesDecode := by
  intro bs tail i h
  rcases bs with _ | ⟨b1, bs⟩
  · cases h
  by_cases hp : b1 ∈ leadBytes
  · exact lead_reencodes hp bs tail i h
  · obtain ⟨g, f, rfl⟩ := exists_op5 b1
    rw [decode_op5] at h
    exact first_reencodes g f hp bs tail i h

end Sys2Proof
end

section
/-!
The byte and word moves and exchanges, each the shared operation of its family at the instruction's own length (O17 to O20), and the
examples of the encoding rules (O3).
-/

namespace Sys2Proof.Machine

/-! ## The families as shared operations, at the length of the instruction -/

theorem ByteMove.exec_eq_move {s : State} {i : Instr} {dst src : ByteOperand} (h : ByteMove s.psw i dst src) :
    exec i s = finish (move i.length dst src s) := by
  cases h
  all_goals rfl

theorem ByteExchange.exec_eq_exchange {s : State} {i : Instr} {dst src : ByteOperand} (h : ByteExchange s.psw i dst src) :
    exec i s = finish (exchange i.length dst src s) := by
  cases h
  all_goals rfl

theorem WordMove.exec_eq_moveWord {s : State} {i : Instr} {dst src : WordOperand} (h : WordMove s.psw i dst src) :
    exec i s = finish (moveWord i.length dst src s) := by
  cases h
  all_goals rfl

theorem WordExchange.exec_eq_exchangeWord {s : State} {i : Instr} {dst src : WordOperand} (h : WordExchange s.psw i dst src) :
    exec i s = finish (exchangeWord i.length dst src s) := by
  cases h
  all_goals rfl

/-! ## Completion and frame -/

/-- An operation whose stores reach `u`, which differs from `s` at cells alone, completes in `u` behind the instruction. -/
theorem exec_eq_next_of_advance {i : Instr} {s u : State} {x : Except Stop State} {l : List Nat} (hexec : exec i s = finish x)
    (hcells : OnlyCells l s u) (hx : x = .ok (u.advance i.length)) :
    exec i s = .next (u.withPc (s.after i.length)) ∧ OnlyCells l s u :=
  ⟨by rw [hexec, hx, finish_ok, hcells.advance_eq], hcells⟩

/-- Settles O17: a move stores once, at the cells of its destination. -/
theorem movesCopyOneByte : Obligations.MovesCopyOneByte := by
  intro i s u dst src v h hread hwrite
  exact exec_eq_next_of_advance h.exec_eq_move (ByteOperand.write_only hwrite) (move_ok.2 ⟨v, u, hread, hwrite, rfl⟩)

/-- Settles O18: an exchange stores at the cells of its source, then at those of its destination. -/
theorem exchangesSwapTwoBytes : Obligations.ExchangesSwapTwoBytes := by
  intro i s u w dst src a b h hsrc hdst hfirst hsecond
  have hcells := (ByteOperand.write_only hfirst).trans (ByteOperand.write_only hsecond)
  exact exec_eq_next_of_advance h.exec_eq_exchange hcells (exchange_ok.2 ⟨a, b, u, w, hsrc, hdst, hfirst, hsecond, rfl⟩)

/-- Settles O19: a word move stores once, at the cells of its destination. -/
theorem wordMovesCopyOneWord : Obligations.WordMovesCopyOneWord := by
  intro i s u dst src w h hread hwrite
  exact exec_eq_next_of_advance h.exec_eq_moveWord (WordOperand.write_only hwrite) (moveWord_ok.2 ⟨w, u, hread, hwrite, rfl⟩)

/-- Settles O20: a word exchange stores at the cells of its source, then at those of its destination. -/
theorem wordExchangesSwapTwoWords : Obligations.WordExchangesSwapTwoWords := by
  intro i s u v dst src a b h hsrc hdst hfirst hsecond
  have hcells := (WordOperand.write_only hfirst).trans (WordOperand.write_only hsecond)
  exact exec_eq_next_of_advance h.exec_eq_exchangeWord hcells
    (exchangeWord_ok.2 ⟨a, b, u, v, hsrc, hdst, hfirst, hsecond, rfl⟩)

end Sys2Proof.Machine

namespace Sys2Proof

/-! ## The examples of the encoding rules -/

/-- Bytes that are the encoding of a well-formed instruction decode to it, and none is left. -/
theorem decode_of_encode_eq {i : Instr} {bs : List Byte} (hwf : i.wellFormed = true) (hbs : encode i = bs) :
    decode bs = .ok (i, []) := by
  rw [← hbs, ← (encode i).append_nil]
  exact decode_encode i [] hwf

/-- Settles O3: the bytes of each example are the encoding of its instruction. -/
theorem exampleWordsDecode : Obligations.ExampleWordsDecode :=
  ⟨decode_of_encode_eq rfl rfl, decode_of_encode_eq rfl rfl, decode_of_encode_eq rfl rfl, decode_of_encode_eq rfl rfl,
    decode_of_encode_eq rfl rfl, decode_of_encode_eq rfl rfl, decode_of_encode_eq rfl rfl, decode_of_encode_eq rfl rfl,
    decode_of_encode_eq rfl rfl, decode_of_encode_eq rfl rfl⟩

end Sys2Proof
end

section
/-!
The 8-bit operations (O23, O24): their flags over the integers, then each form as the shared operation at the length of its
instruction.
-/

namespace Sys2Proof.Machine

/-! ## Flags over the integers (R262 to R268) -/

theorem getLsbD_seven (v : Byte) : v.getLsbD 7 = decide (128 ≤ v.toNat) :=
  BitVec.msb_eq_decide v

theorem getLsbD_eight (t : BitVec 9) : t.getLsbD 8 = decide (256 ≤ t.toNat) :=
  BitVec.msb_eq_decide t

/-- Signed overflow: the number lies outside -128 to 127. -/
theorem not_fits_eight (x : Int) : (!fits 8 x) = decide (x < -128 ∨ 128 ≤ x) := by
  rw [fits, Bool.not_and, ← decide_not, ← decide_not, ← Bool.decide_or, decide_eq_decide]
  omega

theorem add8_cy (a b : Byte) (c : Bool) : (add8 a b c).cy = decide (256 ≤ a.toNat + b.toNat + c.toNat) := by
  simp only [add8, getLsbD_eight, BitVec.toNat_add, BitVec.truncate_eq_setWidth, BitVec.toNat_setWidth, BitVec.toNat_ofBool,
    decide_eq_decide]
  have := c.toNat_lt
  omega

/-- A borrow out of bit 7: the difference is negative. -/
theorem sub8_cy (a b : Byte) (c : Bool) : (sub8 a b c).cy = decide ((a.toNat : Int) - b.toNat - c.toNat < 0) := by
  simp only [sub8, getLsbD_eight, BitVec.toNat_sub, BitVec.truncate_eq_setWidth, BitVec.toNat_setWidth, BitVec.toNat_ofBool,
    decide_eq_decide]
  have := c.toNat_lt
  omega

theorem add8_ac (a b : Byte) (c : Bool) :
    (add8 a b c).ac = decide (16 ≤ a.toNat % 16 + b.toNat % 16 + c.toNat) := by
  simp only [add8, BitVec.extractLsb'_toNat, Nat.shiftRight_zero, decide_eq_decide]
  omega

theorem sub8_ac (a b : Byte) (c : Bool) : (sub8 a b c).ac = decide (a.toNat % 16 < b.toNat % 16 + c.toNat) := by
  simp only [sub8, BitVec.extractLsb'_toNat, Nat.shiftRight_zero]

/-- Addition overflows when two operands of one sign give a result of the other. -/
theorem add8_pv (a b : Byte) (c : Bool) : (add8 a b c).pv = !fits 8 (a.toInt + b.toInt + c.toNat) := by
  have hpv : (add8 a b c).pv =
      ((a.getLsbD 7 == b.getLsbD 7) && ((add8 a b c).res.getLsbD 7 != a.getLsbD 7)) := rfl
  have hc := c.toNat_lt
  rw [hpv, add8_res, not_fits_eight, Bool.eq_iff_iff]
  simp only [getLsbD_seven, BitVec.toNat_ofNat, BitVec.toInt_eq_toNat_cond, Bool.and_eq_true, beq_iff_eq, bne_iff_ne,
    ne_eq, decide_eq_decide, decide_eq_true_iff]
  omega

/-- Subtraction overflows when operands of two signs give a result that has not the sign of the first. -/
theorem sub8_pv (a b : Byte) (c : Bool) : (sub8 a b c).pv = !fits 8 (a.toInt - b.toInt - c.toNat) := by
  have hpv : (sub8 a b c).pv =
      ((a.getLsbD 7 != b.getLsbD 7) && ((sub8 a b c).res.getLsbD 7 != a.getLsbD 7)) := rfl
  have hc := c.toNat_lt
  rw [hpv, sub8_res, not_fits_eight, Bool.eq_iff_iff]
  simp only [getLsbD_seven, BitVec.toNat_ofInt, BitVec.toInt_eq_toNat_cond, Bool.and_eq_true, bne_iff_ne,
    ne_eq, decide_eq_decide, decide_eq_true_iff]
  omega

/-- The zero flag, of the number a result stands for. -/
theorem beq_zero_eq_decide {w : Nat} (v : BitVec w) : (v == 0#w) = decide (v.toNat = 0) := by
  rw [Bool.eq_iff_iff, beq_iff_eq, decide_eq_true_iff, ← BitVec.toNat_inj, BitVec.toNat_zero]

/-- The flags of an addition are those of the sum over the integers. -/
theorem Psw.arith_add8 (p : Psw) (a b : Byte) (c : Bool) :
    p.arith (add8 a b c) false = addFlags a b c (decide (16 ≤ a.toNat % 16 + b.toNat % 16 + c.toNat)) p := by
  rw [Psw.arith, addFlags, add8_ac, add8_pv, add8_cy, add8_res, BitVec.msb_eq_decide, beq_zero_eq_decide, BitVec.toNat_ofNat]
  rfl

/-- The flags of a subtraction are those of the difference over the integers. -/
theorem Psw.arith_sub8 (p : Psw) (a b : Byte) (c : Bool) :
    p.arith (sub8 a b c) true = subFlags a b c (decide (a.toNat % 16 < b.toNat % 16 + c.toNat)) p := by
  have hres := BitVec.toNat_ofInt (n := 8) (a.toNat - b.toNat - c.toNat)
  rw [Psw.arith, subFlags, sub8_ac, sub8_pv, sub8_cy, sub8_res, BitVec.msb_eq_decide, beq_zero_eq_decide]
  congr 1
  · exact decide_eq_decide.2 (by omega)
  · exact decide_eq_decide.2 (by omega)

/-- Counting the ones of a number bit by bit tells what halving it again and again does. -/
theorem even_count_testBit (w n : Nat) : (((List.range w).filter n.testBit).length % 2 == 0) = evenOnes w n := by
  induction w generalizing n with
  | zero => rfl
  | succ w ih =>
    have hshift : n.testBit ∘ Nat.succ = (n / 2).testBit := funext fun i => Nat.testBit_succ n i
    rw [evenOnes, ← ih, List.range_succ_eq_map, List.filter_cons, List.filter_map, hshift, Nat.testBit_zero]
    rcases Nat.mod_two_eq_zero_or_one n with even | odd
    · simp [even]
    · rw [Bool.eq_iff_iff]
      simp [odd, Nat.succ_mod_two_eq_zero_iff]

/-- The parity of a result, counted over its binary digits. -/
theorem parity_eq_evenOnes {w : Nat} (v : BitVec w) : parity v = evenOnes w v.toNat := even_count_testBit w v.toNat

theorem Psw.logical_eq_logicFlags (p : Psw) (r : Byte) : p.logical r = logicFlags r p := by
  rw [Psw.logical, logicFlags, parity_eq_evenOnes, BitVec.msb_eq_decide, beq_zero_eq_decide]

/-- The flags of an 8-bit operation are those over the integers. -/
theorem AluOp.flags_eq_aluPsw (op : AluOp) (c : Bool) (a b : Byte) (p : Psw) : op.flags c a b p = aluPsw op c a b p := by
  cases op
  case add => exact p.arith_add8 a b false
  case addc => exact p.arith_add8 a b c
  case sub | cmp => exact p.arith_sub8 a b false
  case subc => exact p.arith_sub8 a b c
  case and | xor | or => exact p.logical_eq_logicFlags _

/-! ## The shared operation -/

/-- CMP, whose operands both read, writes the flags alone. -/
theorem alu8_cmp_eq {dst src : ByteOperand} {s : State} {a b : Byte} (hsrc : src.read 0 s.psw s = .ok b)
    (hdst : dst.read 1 s.psw s = .ok a) :
    alu8 .cmp dst src s = .ok (s.withPsw (aluPsw .cmp s.psw.cy a b s.psw)) :=
  alu8_cmp_ok.2 ⟨b, a, hsrc, hdst, by rw [AluOp.flags_eq_aluPsw]⟩

theorem AluOp.stores_of_ne_cmp {op : AluOp} (h : op ≠ .cmp) : op.stores = true := by
  cases op
  case cmp => exact absurd rfl h
  all_goals rfl

/-- An operation other than CMP stores its result, then writes the flags. -/
theorem alu8_store_eq {op : AluOp} {dst src : ByteOperand} {s u : State} {a b : Byte} (hop : op ≠ .cmp)
    (hsrc : src.read 0 s.psw s = .ok b) (hdst : dst.read 1 s.psw s = .ok a)
    (hwrite : dst.write (aluValue op s.psw.cy a b) s.psw s = .ok u) :
    alu8 op dst src s = .ok (u.withPsw (aluPsw op s.psw.cy a b u.psw)) :=
  (alu8_ok (AluOp.stores_of_ne_cmp hop)).2
    ⟨b, a, u, hsrc, hdst, by rwa [AluOp.result_eq_aluValue], by rw [AluOp.flags_eq_aluPsw]⟩

/-- Behind an instruction whose stores reach `u` the flags are written into the PSW of `u`. -/
theorem OnlyCells.withPsw_advance_eq {l : List Nat} {s u : State} (h : OnlyCells l s u) (p : Psw) (n : Nat) :
    (u.withPsw p).advance n = { u with pc := s.after n, psw := p } := by
  rw [State.advance, State.withPsw_pc, h.pc, s.pc_add_eq_after]
  rfl

/-! ## The forms without a memory operand -/

theorem ByteArith.exec_eq_alu8Step {s : State} {i : Instr} {op : AluOp} {dst src : ByteOperand}
    (h : ByteArith s.psw i op dst src) : exec i s = finish (alu8Step op i.length dst src s) := by
  cases h
  all_goals rfl

theorem ByteArith.exec_eq_next {s u : State} {i : Instr} {op : AluOp} {dst src : ByteOperand} {p : Psw} {l : List Nat}
    (h : ByteArith s.psw i op dst src) (hcells : OnlyCells l s u) (halu : alu8 op dst src s = .ok (u.withPsw p)) :
    exec i s = .next { u with pc := s.after i.length, psw := p } := by
  rw [h.exec_eq_alu8Step, finish_eq_next, alu8Step_ok]
  exact ⟨_, halu, (hcells.withPsw_advance_eq p _).symm⟩

/-- Settles O23: CMP keeps the state but for the flags, any other operation stores at the cells of its destination first. -/
theorem byteOperationsResultAndFlags : Obligations.ByteOperationsResultAndFlags := by
  intro i s op dst src a b h hsrc hdst
  refine ⟨?compare, fun hop u hwrite => ?store⟩
  case compare =>
    rintro rfl
    exact h.exec_eq_next (.refl s) (alu8_cmp_eq hsrc hdst)
  case store =>
    have hcells := ByteOperand.write_only hwrite
    exact ⟨h.exec_eq_next hcells (alu8_store_eq hop hsrc hdst hwrite), hcells⟩

/-! ## The forms with a memory operand (R269) -/

/-- The pointer update does not see the PSW of the state, nor does it change it. -/
theorem bump_withPsw (p q : Psw) (m : MemOperand) (s : State) : bump p m (s.withPsw q) = (bump p m s).withPsw q := by
  cases m <;> rfl

theorem MemArith.exec_eq_alu8Mem {i : Instr} {op : AluOp} {toMem : Bool} {m : MemOperand} (h : MemArith i op toMem m)
    (s : State) : exec i s = finish (alu8Mem op toMem m s) := by
  cases h
  all_goals rfl

theorem MemArith.length_eq {i : Instr} {op : AluOp} {toMem : Bool} {m : MemOperand} (h : MemArith i op toMem m) :
    i.length = m.length := by
  cases h
  all_goals exact memBytes_length _ _ m

/-- The memory operand is the first operand or the second, A the other one. -/
theorem alu8Mem_operands (op : AluOp) (toMem : Bool) (m : MemOperand) {s : State} {x : Byte}
    (hx : readByte (if toMem then 1 else 0) (effectiveAddress m s) s = .ok x) :
    let acc := readReg s.psw s.psw.regA s
    let dst : ByteOperand := if toMem then .mem (effectiveAddress m s) else .reg s.psw.regA
    ∃ src : ByteOperand, src.read 0 s.psw s = .ok (if toMem then acc else x) ∧
      dst.read 1 s.psw s = .ok (if toMem then x else acc) ∧
      alu8Mem op toMem m s = (do let t ← alu8 op dst src s; .ok ((bump s.psw m t).advance m.length)) := by
  cases toMem with
  | false => exact ⟨.mem (effectiveAddress m s), hx, rfl, rfl⟩
  | true => exact ⟨.reg s.psw.regA, rfl, hx, rfl⟩

theorem MemArith.exec_eq_next {i : Instr} {op : AluOp} {toMem : Bool} {m : MemOperand} {s u : State} {dst src : ByteOperand}
    {p : Psw} {l : List Nat} (h : MemArith i op toMem m)
    (hmem : alu8Mem op toMem m s = (do let t ← alu8 op dst src s; .ok ((bump s.psw m t).advance m.length)))
    (hcells : OnlyCells l s (bump s.psw m u)) (halu : alu8 op dst src s = .ok (u.withPsw p)) :
    exec i s = .next { bump s.psw m u with pc := s.after i.length, psw := p } := by
  rw [h.exec_eq_alu8Mem, hmem, halu, ok_bind, finish_ok, bump_withPsw, hcells.withPsw_advance_eq, h.length_eq]

/-- Settles O24: the operation of O23 with the byte at the effective address, then the pointer update. -/
theorem memoryOperationsResultAndFlags : Obligations.MemoryOperationsResultAndFlags := by
  intro i s op toMem m x h hx acc a b dst
  obtain ⟨src, hsrc, hdst, hmem⟩ := alu8Mem_operands op toMem m hx
  refine ⟨?compare, fun hop u hwrite => ?store⟩
  case compare =>
    rintro rfl
    exact h.exec_eq_next hmem (bump_only s.psw m s) (alu8_cmp_eq hsrc hdst)
  case store =>
    have hcells := (ByteOperand.write_only hwrite).trans (bump_only s.psw m u)
    exact ⟨h.exec_eq_next hmem hcells (alu8_store_eq hop hsrc hdst hwrite), hcells⟩

end Sys2Proof.Machine
end

section
/-!
ADDW, SUBW and CMPW (O25): their carry and signed overflow are the library's overflow predicates, then each form is the shared
operation at the length of its instruction.
-/

namespace Sys2Proof.Machine

/-! ## Flags over the integers (R281 to R283) -/

/-- Signed overflow, at every width: the number lies above the range or below it. -/
theorem not_fits (w : Nat) (x : Int) : (!fits w x) = (decide (2 ^ (w - 1) ≤ x) || decide (x < -2 ^ (w - 1))) := by
  rw [fits, Bool.not_and, ← decide_not, ← decide_not, Bool.or_comm]
  simp only [not_le, not_lt]

theorem not_fits_add {w : Nat} (a b : BitVec w) : (!fits w (a.toInt + b.toInt)) = a.saddOverflow b := not_fits w _

theorem not_fits_sub {w : Nat} (a b : BitVec w) : (!fits w (a.toInt - b.toInt)) = a.ssubOverflow b := not_fits w _

/-- A carry out of bit 15. -/
theorem add16_cy (free : Bool) (a b : Word) : (add16 free a b).cy = a.uaddOverflow b :=
  (BitVec.uaddOverflow_eq a b).symm

/-- A borrow out of bit 15: the first operand is the smaller one. -/
theorem sub16_cy (free : Bool) (a b : Word) : (sub16 free a b).cy = a.usubOverflow b := by
  have hcy : (sub16 free a b).cy = (a.zeroExtend 17 - b.zeroExtend 17).msb := rfl
  rw [hcy, BitVec.msb_eq_decide, BitVec.usubOverflow, decide_eq_decide, BitVec.toNat_sub]
  simp only [BitVec.truncate_eq_setWidth, BitVec.toNat_setWidth]
  omega

theorem add16_res_eq_add (free : Bool) (a b : Word) : (add16 free a b).res = a + b := by
  rw [add16_res, BitVec.ofNat_add, BitVec.ofNat_toNat, BitVec.ofNat_toNat, BitVec.setWidth_eq, BitVec.setWidth_eq]

theorem sub16_res_eq_sub (free : Bool) (a b : Word) : (sub16 free a b).res = a - b := by
  have hsub := BitVec.toNat_sub a b
  apply BitVec.eq_of_toNat_eq
  rw [sub16_res, BitVec.toNat_ofInt]
  omega

/-- Addition overflows when two operands of one sign give a result of the other. -/
theorem add16_pv (free : Bool) (a b : Word) : (add16 free a b).pv = a.saddOverflow b := by
  have hpv : (add16 free a b).pv = ((a.msb == b.msb) && ((add16 free a b).res.msb != a.msb)) := rfl
  rw [hpv, add16_res_eq_add, BitVec.saddOverflow_eq]
  rfl

/-- Subtraction overflows when operands of two signs give a result that has not the sign of the first. -/
theorem sub16_pv (free : Bool) (a b : Word) : (sub16 free a b).pv = a.ssubOverflow b := by
  have hpv : (sub16 free a b).pv = ((a.msb != b.msb) && ((sub16 free a b).res.msb != a.msb)) := rfl
  have hsigns : ∀ x y r : Bool, ((x != y) && (r != x)) = (!x && y && r || x && !y && !r) := by decide
  rw [hpv, sub16_res_eq_sub, BitVec.ssubOverflow_eq, hsigns]

/-- The flags of ADDW are those of the sum over the integers; AC is the free bit (log 21). -/
theorem Psw.arith_add16 (p : Psw) (free : Bool) (a b : Word) :
    p.arith (add16 free a b) false = addFlags a b false free p := by
  have hac : (add16 free a b).ac = free := rfl
  simp only [addFlags, Bool.toNat_false, Nat.add_zero, Int.natCast_zero, Int.add_zero]
  rw [Psw.arith, hac, add16_pv, add16_cy, add16_res, BitVec.msb_eq_decide, beq_zero_eq_decide, BitVec.toNat_ofNat, not_fits_add]
  rfl

/-- The flags of SUBW and CMPW are those of the difference over the integers; AC is the free bit (log 21). -/
theorem Psw.arith_sub16 (p : Psw) (free : Bool) (a b : Word) :
    p.arith (sub16 free a b) true = subFlags a b false free p := by
  have hac : (sub16 free a b).ac = free := rfl
  have hres := BitVec.toNat_ofInt (n := 16) (a.toNat - b.toNat)
  simp only [subFlags, Bool.toNat_false, Int.natCast_zero, Int.sub_zero]
  rw [Psw.arith, hac, sub16_pv, sub16_cy, sub16_res, BitVec.msb_eq_decide, beq_zero_eq_decide, not_fits_sub]
  congr 1
  case e_s | e_z | e_cy => exact decide_eq_decide.2 (by omega)

/-- The flags of a word operation are those over the integers. -/
theorem Psw.arith_alu16 (p : Psw) (op : WordOp) (n : Nat) (a b : Word) :
    p.arith (alu16 op n a b) op.subtracts = wordPsw op n a b p := by
  cases op
  case addw => exact p.arith_add16 _ a b
  case subw | cmpw => exact p.arith_sub16 _ a b

/-! ## The shared operation -/

theorem WordOp.stores_of_ne_cmpw {op : WordOp} (h : op ≠ .cmpw) : op.stores = true := by
  cases op
  case cmpw => exact absurd rfl h
  all_goals rfl

section
variable {n : Nat} {dst src : WordOperand} {s : State} {a b : Word} (hsrc : src.read 0 s.psw s = .ok b)
  (hdst : dst.read 1 s.psw s = .ok a)
include hsrc hdst

/-- CMPW, whose operands both read, writes the flags alone. -/
theorem alu16Step_cmpw_eq :
    alu16Step .cmpw n dst src s = .ok ((s.withPsw (wordPsw .cmpw s.draws a b s.psw)).advance n) :=
  alu16Step_cmpw_ok.2 ⟨b, a, hsrc, hdst, by rw [← Psw.arith_alu16]; rfl⟩

/-- ADDW and SUBW store their result, then write the flags. -/
theorem alu16Step_store_eq {op : WordOp} {u : State} (hop : op ≠ .cmpw)
    (hwrite : dst.write (wordValue op a b) s.psw s = .ok u) :
    alu16Step op n dst src s = .ok ((u.withPsw (wordPsw op s.draws a b u.psw)).advance n) :=
  (alu16Step_ok (WordOp.stores_of_ne_cmpw hop)).2 ⟨b, a, u, hsrc, hdst, by rwa [alu16_res], by rw [Psw.arith_alu16]⟩

end

/-! ## The 21 forms -/

theorem WordArith.exec_eq_alu16Step {s : State} {i : Instr} {op : WordOp} {dst src : WordOperand}
    (h : WordArith s.psw i op dst src) : exec i s = finish (alu16Step op i.length dst src s) := by
  cases h
  all_goals rfl

theorem WordArith.exec_eq_next {s u : State} {i : Instr} {op : WordOp} {dst src : WordOperand} {p : Psw} {l : List Nat}
    (h : WordArith s.psw i op dst src) (hcells : OnlyCells l s u)
    (halu : alu16Step op i.length dst src s = .ok ((u.withPsw p).advance i.length)) :
    exec i s = .next { u with pc := s.after i.length, psw := p } := by
  rw [h.exec_eq_alu16Step, halu, finish_ok, hcells.withPsw_advance_eq]

/-- Settles O25: CMPW keeps the state but for the flags, ADDW and SUBW store at the cells of their destination first. -/
theorem wordOperationsResultAndFlags : Obligations.WordOperationsResultAndFlags := by
  intro i s op dst src a b h hsrc hdst
  refine ⟨?compare, fun hop u hwrite => ?store⟩
  case compare =>
    rintro rfl
    exact h.exec_eq_next (.refl s) (alu16Step_cmpw_eq hsrc hdst)
  case store =>
    have hcells := WordOperand.write_only hwrite
    exact ⟨h.exec_eq_next hcells (alu16Step_store_eq hsrc hdst hop hwrite), hcells⟩

end Sys2Proof.Machine
end

section
/-!
INC, DEC, INCW and DECW (O26, O27), MULU and MULUW (O28), DIVUW and DIVUX (O29): first their arithmetic over the integers, then each
form as its shared operation.
-/

namespace Sys2Proof.Machine

/-! ## Plus and minus one over the integers -/

theorem ofNat_toNat_add_one {w : Nat} (v : BitVec w) : BitVec.ofNat w (v.toNat + 1) = v + 1#w := by
  rw [BitVec.ofNat_add, BitVec.ofNat_toNat, BitVec.setWidth_eq]

theorem ofInt_toNat_sub_one {w : Nat} (v : BitVec w) : BitVec.ofInt w (v.toNat - 1) = v - 1#w := by
  rw [Int.sub_eq_add_neg, BitVec.ofInt_add, BitVec.ofInt_neg, BitVec.ofInt_natCast, BitVec.ofNat_toNat, BitVec.setWidth_eq,
    BitVec.sub_eq_add_neg]
  rfl

/-- What a step stores is the number over the integers, at every width. -/
theorem step_value {w : Nat} (up : Bool) (v : BitVec w) :
    (if up then BitVec.ofNat w (v.toNat + 1) else BitVec.ofInt w (v.toNat - 1)) = if up then v + 1#w else v - 1#w := by
  rw [ofNat_toNat_add_one, ofInt_toNat_sub_one]

theorem beq_eq_decide_toNat {w : Nat} (v k : BitVec w) : (v == k) = decide (v.toNat = k.toNat) := by
  rw [Bool.eq_iff_iff, beq_iff_eq, decide_eq_true_iff, BitVec.toNat_inj]

theorem toNat_low_nibble (v : Byte) : (v.extractLsb' 0 4).toNat = v.toNat % 16 := by
  rw [BitVec.extractLsb'_toNat, Nat.shiftRight_zero]

/-- Of the bytes plus one, that of 7FH alone leaves the signed range. -/
theorem not_fits_add_one (v : Byte) : (!fits 8 (v.toInt + 1)) = decide (v.toNat = 0x7F) := by
  rw [not_fits_eight, decide_eq_decide, BitVec.toInt_eq_toNat_cond]
  omega

/-- Of the bytes minus one, that of 80H alone leaves the signed range. -/
theorem not_fits_sub_one (v : Byte) : (!fits 8 (v.toInt - 1)) = decide (v.toNat = 0x80) := by
  rw [not_fits_eight, decide_eq_decide, BitVec.toInt_eq_toNat_cond]
  omega

/-- The flags of INC are those of adding 1 over the integers (log 20). -/
theorem Psw.inc8_eq_stepPsw (p : Psw) (v : Byte) : p.inc8 v = stepPsw true v p := by
  have hone : v.toInt + (1#8).toInt + (false.toNat : Int) = v.toInt + 1 := Int.add_zero _
  simp only [Psw.inc8, stepPsw, addFlags, if_true, hone, not_fits_add_one, BitVec.msb_eq_decide, beq_eq_decide_toNat,
    toNat_low_nibble]
  rfl

/-- The flags of DEC are those of subtracting 1 over the integers (log 20). -/
theorem Psw.dec8_eq_stepPsw (p : Psw) (v : Byte) : p.dec8 v = stepPsw false v p := by
  have hone : v.toInt - (1#8).toInt - (false.toNat : Int) = v.toInt - 1 := Int.sub_zero _
  have hdiff : (v.toNat : Int) - (1#8).toNat - (false.toNat : Int) = v.toNat - 1 := Int.sub_zero _
  have hres : ((v - 1#8).toNat : Int) = (v.toNat - 1) % 2 ^ 8 := by
    rw [BitVec.toNat_sub, BitVec.toNat_ofNat]
    omega
  simp only [Psw.dec8, stepPsw, subFlags, Bool.false_eq_true, if_false, hone, hdiff, ← hres, not_fits_sub_one,
    BitVec.msb_eq_decide, beq_eq_decide_toNat, toNat_low_nibble]
  norm_cast

theorem Psw.step_eq_stepPsw (p : Psw) (up : Bool) (v : Byte) : (if up then p.inc8 v else p.dec8 v) = stepPsw up v p := by
  cases up
  case true => exact p.inc8_eq_stepPsw v
  case false => exact p.dec8_eq_stepPsw v

/-! ## INC and DEC of a byte -/

theorem ByteStep.exec_eq_stepByte {i : Instr} {up : Bool} {o : ByteOperand} (h : ByteStep i up o) (s : State) :
    exec i s = finish (stepByte i.length up o s) := by
  cases h
  all_goals rfl

/-- Settles O26: the byte is stored at the cells of the operand, then the flags are written. -/
theorem byteStepsResultAndFlags : Obligations.ByteStepsResultAndFlags := by
  intro i s u up o v h hread hwrite
  have hcells := ByteOperand.write_only hwrite
  rw [step_value] at hwrite
  refine ⟨?_, hcells⟩
  rw [h.exec_eq_stepByte, finish_eq_next, stepByte_ok]
  exact ⟨v, u, hread, hwrite, by rw [Psw.step_eq_stepPsw, hcells.withPsw_advance_eq]⟩

/-! ## INCW and DECW of a word -/

theorem WordStep.exec_eq_stepWord {i : Instr} {up : Bool} {o : WordOperand} (h : WordStep i up o) (s : State) :
    exec i s = finish (stepWord i.length up o s) := by
  cases h
  all_goals rfl

/-- An odd offset names no word, so the step is refused before it reads (R92). -/
theorem stepWord_saddrp_odd {off : Byte} (h : off.toNat % 2 = 1) (n : Nat) (up : Bool) (s : State) :
    stepWord n up (.saddrp off) s = .error (.refusal (.oddWordOffset off)) := by
  have haddr : saddrpAddr off = .error (.refusal (.oddWordOffset off)) := by rw [saddrpAddr_eq, if_pos h]
  simp only [stepWord, WordOperand.read, haddr, error_bind]

/-- Settles O27: a word step stores once, at the cells of its operand, and no flag. -/
theorem wordStepsChangeOneWord : Obligations.WordStepsChangeOneWord := by
  refine ⟨fun i s u up o w h hread hwrite => ?step, fun off s hodd => ?odd, fun rp2 => ?pairs, fun off => ⟨rfl, rfl⟩, rfl, rfl⟩
  case step =>
    have hcells := WordOperand.write_only hwrite
    rw [step_value] at hwrite
    exact exec_eq_next_of_advance (h.exec_eq_stepWord s) hcells (stepWord_ok.2 ⟨w, u, hread, hwrite, rfl⟩)
  case odd =>
    constructor
    · rw [(WordStep.incwSaddrp off).exec_eq_stepWord, stepWord_saddrp_odd hodd, finish_refusal]
    · rw [(WordStep.decwSaddrp off).exec_eq_stepWord, stepWord_saddrp_odd hodd, finish_refusal]
  case pairs =>
    cases rp2
    all_goals exact ⟨rfl, rfl, rfl⟩

/-! ## Products and quotients as words -/

theorem toNat_ofNat_of_lt {w t : Nat} (h : t < 2 ^ w) : (BitVec.ofNat w t).toNat = t := by
  rw [BitVec.toNat_ofNat, Nat.mod_eq_of_lt h]

/-- A remainder is no longer than its divisor. -/
theorem toNat_ofNat_mod {w : Nat} (n : Nat) {d : BitVec w} (hd : d.toNat ≠ 0) :
    (BitVec.ofNat w (n % d.toNat)).toNat = n % d.toNat :=
  toNat_ofNat_of_lt ((Nat.mod_lt n (Nat.pos_of_ne_zero hd)).trans d.isLt)

/-- A number below 2^32 in two words. -/
theorem toNat_halves {t : Nat} (h : t < 0x10000 * 0x10000) :
    (BitVec.ofNat 16 (t / 0x10000)).toNat * 0x10000 + (BitVec.ofNat 16 t).toNat = t := by
  rw [toNat_ofNat_of_lt (Nat.div_lt_of_lt_mul h), BitVec.toNat_ofNat, Nat.div_add_mod']

/-- Two words are a number below 2^32. -/
theorem toNat_pair_lt (hi lo : Word) : hi.toNat * 0x10000 + lo.toNat < 0x10000 * 0x10000 := by omega

/-! ## MULU and MULUW -/

theorem mulu_eq (r1 : Reg8) (s : State) :
    mulu r1 s = (writePair s.psw s.psw.accumulator
      (BitVec.ofNat 16 ((readReg s.psw s.psw.regA s).toNat * (readReg s.psw (reg8 r1) s).toNat)) s).withPc (s.after 2) :=
  (writePair_only s.psw s.psw.accumulator _ s).advance_eq 2

theorem muluw_accumulator (s : State) : muluw s.psw.accumulator s =
    (writePair s.psw s.psw.accumulator (Config.freeWord s.draws 0) s).withPc (s.after 2) := by
  rw [muluw, if_pos rfl, (writePair_only ..).advance_eq]

theorem muluw_of_ne {k : PairNo} {s : State} (h : k ≠ s.psw.accumulator) :
    let t := (readPair s.psw s.psw.accumulator s).toNat * (readPair s.psw k s).toNat
    muluw k s = (writePair s.psw k (BitVec.ofNat 16 t)
      (writePair s.psw s.psw.accumulator (BitVec.ofNat 16 (t / 0x10000)) s)).withPc (s.after 2) := by
  rw [muluw, if_neg h, ((writePair_only ..).trans (writePair_only ..)).advance_eq]

/-- Settles O28: the product of two bytes fits a word, that of two words fits two. -/
theorem multiplicationIsExact : Obligations.MultiplicationIsExact := by
  refine ⟨fun r1 s => ⟨_, toNat_ofNat_of_lt ?bytes, congrArg Host.Outcome.next (mulu_eq r1 s)⟩,
    fun k s hne => ⟨_, _, toNat_halves ?words, congrArg Host.Outcome.next (muluw_of_ne hne)⟩,
    fun s => ⟨_, congrArg Host.Outcome.next (muluw_accumulator s)⟩⟩
  case bytes => exact Nat.mul_lt_mul'' (c := 0x100) (d := 0x100) (BitVec.isLt _) (BitVec.isLt _)
  case words => exact Nat.mul_lt_mul'' (BitVec.isLt _) (BitVec.isLt _)

/-! ## DIVUW and DIVUX -/

/-- DIVUW stores AX, then r1: the quotient and the remainder but where log 23 leaves them free. -/
theorem divuw_eq (r1 : Reg8) (s : State) :
    let p := s.psw
    let n := (readPair p p.accumulator s).toNat
    let d := readReg p (reg8 r1) s
    let q := if d = 0#8 then Config.freeWord s.draws 0 else BitVec.ofNat 16 (n / d.toNat)
    let r := if d = 0#8 then Config.freeByte s.draws 0
      else if reg8 r1 = p.regA ∨ reg8 r1 = p.regX then Config.freeByte s.draws 0 else BitVec.ofNat 8 (n % d.toNat)
    divuw r1 s = (writeReg p (reg8 r1) r (writePair p p.accumulator q s)).withPc (s.after 2) := by
  intro p n d q r
  rw [← ((writePair_only ..).trans (writeReg_only ..)).advance_eq, divuw]
  simp only [q, r]
  split_ifs
  all_goals rfl

/-- DIVUX stores AX, DE, then rp1: the quotient and the remainder but where log 23 leaves them free. -/
theorem divux_eq (k : PairNo) (s : State) :
    let p := s.psw
    let n := (readPair p p.accumulator s).toNat * 0x10000 + (readPair p pairDe s).toNat
    let d := (readPair p k s).toNat
    let hi := if d = 0 then Config.freeWord s.draws 0 else BitVec.ofNat 16 (n / d / 0x10000)
    let lo := if d = 0 then Config.freeWord s.draws 1 else BitVec.ofNat 16 (n / d)
    let r := if d = 0 then Config.freeWord s.draws 2
      else if k = p.accumulator ∨ k = pairDe then Config.freeWord s.draws 0 else BitVec.ofNat 16 (n % d)
    divux k s = (writePair p k r (writePair p pairDe lo (writePair p p.accumulator hi s))).withPc (s.after 2) := by
  intro p n d hi lo r
  rw [← (((writePair_only ..).trans (writePair_only ..)).trans (writePair_only ..)).advance_eq, divux]
  simp only [hi, lo, r]
  split_ifs
  all_goals rfl

/-- Settles O29: a quotient fits where the dividend does, a remainder where the divisor does. -/
theorem divisionGivesQuotientAndRemainder : Obligations.DivisionGivesQuotientAndRemainder := by
  constructor
  · intro r1 s n d
    refine ⟨_, _, congrArg Host.Outcome.next (divuw_eq r1 s), fun hd => ?_⟩
    have hzero : readReg s.psw (reg8 r1) s ≠ 0#8 := fun h => hd (congrArg BitVec.toNat h)
    rw [if_neg hzero, if_neg hzero]
    refine ⟨toNat_ofNat_of_lt ((Nat.div_le_self n d).trans_lt (BitVec.isLt _)), fun hA hX => ?_⟩
    rw [if_neg (not_or.2 ⟨hA, hX⟩)]
    exact toNat_ofNat_mod n hd
  · intro k s n d
    refine ⟨_, _, _, congrArg Host.Outcome.next (divux_eq k s), fun hd => ?_⟩
    rw [if_neg hd, if_neg hd, if_neg hd]
    refine ⟨toNat_halves ((Nat.div_le_self n d).trans_lt (toNat_pair_lt _ _)), fun hAX hDE => ?_⟩
    rw [if_neg (not_or.2 ⟨hAX, hDE⟩)]
    exact toNat_ofNat_mod n hd

end Sys2Proof.Machine
end

section
/-!
Rotates and shifts (O30, O31): the closed forms at every width and one more step of each, the steps of the model as such steps, then
the forms as shared operations.
-/

namespace Sys2Proof.Machine

/-! ## Steps one after the other (R340(b)) -/

theorem repeatStep_eq_iterate {α : Type} (f : α → α) (n : Nat) (x : α) : repeatStep f n x = f^[n] x := by
  induction n generalizing x with
  | zero => rfl
  | succ n ih => exact ih (f x)

/-- Values of which each is one step after the one before are what repeating the step on the first gives. -/
theorem repeatStep_eq_of_step {α : Type} {f : α → α} {x : α} (g : Nat → α) {bound n : Nat} (hzero : g 0 = x)
    (hstep : ∀ i < bound, f (g i) = g (i + 1)) (hn : n ≤ bound) : repeatStep f n x = g n := by
  rw [repeatStep_eq_iterate]
  induction n with
  | zero => exact hzero.symm
  | succ n ih => rw [Function.iterate_succ_apply', ih (by omega), hstep n hn]

/-! ## Rotates and shifts by a sum -/

/-- Turning to the right takes each bit from `n` places on, around the end. -/
theorem getLsbD_rotateRight_mod {w i : Nat} (x : BitVec w) (n : Nat) (hi : i < w) :
    (x.rotateRight n).getLsbD i = x.getLsbD ((i + n) % w) := by
  have hn : n % w < w := Nat.mod_lt _ (by omega)
  rw [BitVec.getLsbD_rotateRight, ← Nat.add_mod_mod i n w]
  by_cases h : i < w - n % w
  · rw [Nat.mod_eq_of_lt (by omega : i + n % w < w), decide_eq_true h, cond_true, Nat.add_comm]
  · have hwrap : (i + n % w) % w = i - (w - n % w) := by
      rw [Nat.mod_eq_sub_mod (by omega), Nat.mod_eq_of_lt (by omega)]
      omega
    rw [hwrap, decide_eq_false h, decide_eq_true hi, cond_false, Bool.true_and]

theorem rotateRight_zero {w : Nat} (x : BitVec w) : x.rotateRight 0 = x := by
  refine BitVec.eq_of_getLsbD_eq fun i hi => ?_
  rw [getLsbD_rotateRight_mod x 0 hi, Nat.add_zero, Nat.mod_eq_of_lt hi]

theorem rotateRight_rotateRight {w : Nat} (x : BitVec w) (m n : Nat) :
    (x.rotateRight m).rotateRight n = x.rotateRight (m + n) := by
  refine BitVec.eq_of_getLsbD_eq fun i hi => ?_
  rw [getLsbD_rotateRight_mod _ _ hi, getLsbD_rotateRight_mod _ _ (Nat.mod_lt _ (by omega)), getLsbD_rotateRight_mod _ _ hi,
    Nat.mod_add_mod, Nat.add_assoc, Nat.add_comm n]

theorem rotateLeft_zero {w : Nat} (x : BitVec w) : x.rotateLeft 0 = x := by
  refine BitVec.eq_of_getMsbD_eq fun i hi => ?_
  rw [BitVec.getMsbD_rotateLeft, Nat.zero_add, Nat.mod_eq_of_lt hi, decide_eq_true hi, Bool.true_and]

theorem rotateLeft_rotateLeft {w : Nat} (x : BitVec w) (m n : Nat) :
    (x.rotateLeft m).rotateLeft n = x.rotateLeft (m + n) := by
  refine BitVec.eq_of_getMsbD_eq fun i hi => ?_
  have hmod : (n + i) % w < w := Nat.mod_lt _ (by omega)
  simp only [BitVec.getMsbD_rotateLeft, hi, hmod, decide_true, Bool.true_and, Nat.add_mod_mod, Nat.add_assoc]

theorem ofNat_toNat_div_pow {w : Nat} (v : BitVec w) (n : Nat) : BitVec.ofNat w (v.toNat / 2 ^ n) = v >>> n := by
  rw [← Nat.shiftRight_eq_div_pow, ← BitVec.toNat_ushiftRight, BitVec.ofNat_toNat, BitVec.setWidth_eq]

theorem ofNat_toNat_mul_pow {w : Nat} (v : BitVec w) (n : Nat) : BitVec.ofNat w (v.toNat * 2 ^ n) = v <<< n := by
  rw [← Nat.shiftLeft_eq]
  rfl

/-! ## One more step of a closed form -/

theorem rotateRightOf_succ {w n : Nat} (hn : n < w) (v : BitVec w) (c : Bool) :
    let r := rotateRightOf n v c
    rotateRightOf (n + 1) v c = (r.1.rotateRight 1, r.1.getLsbD 0) := by
  simp only [rotateRightOf]
  rw [rotateRight_rotateRight, getLsbD_rotateRight_mod v n (by omega), Nat.zero_add, Nat.mod_eq_of_lt hn]
  rfl

theorem rotateLeftOf_succ {w n : Nat} (hn : n < w) (v : BitVec w) (c : Bool) :
    let r := rotateLeftOf n v c
    rotateLeftOf (n + 1) v c = (r.1.rotateLeft 1, r.1.msb) := by
  simp only [rotateLeftOf]
  rw [rotateLeft_rotateLeft, BitVec.msb_rotateLeft, Nat.mod_eq_of_lt hn, BitVec.getMsbD, decide_eq_true hn, Bool.true_and,
    Nat.sub_sub, Nat.add_comm 1]
  rfl

theorem shiftRightOf_succ {w : Nat} (n : Nat) (v : BitVec w) (c : Bool) :
    let r := shiftRightOf n v c
    shiftRightOf (n + 1) v c = (r.1 >>> 1, r.1.getLsbD 0) := by
  simp only [shiftRightOf, ofNat_toNat_div_pow]
  rw [← BitVec.shiftRight_add, BitVec.getLsbD_ushiftRight]
  rfl

theorem shiftLeftOf_succ {w n : Nat} (hn : n < w) (v : BitVec w) (c : Bool) :
    let r := shiftLeftOf n v c
    shiftLeftOf (n + 1) v c = (r.1 <<< 1, r.1.msb) := by
  simp only [shiftLeftOf, ofNat_toNat_mul_pow]
  rw [← BitVec.shiftLeft_add, BitVec.msb_shiftLeft, BitVec.getMsbD, decide_eq_true hn, Bool.true_and, Nat.sub_sub,
    Nat.add_comm 1]
  rfl

/-- The bits `c : v` taken apart into the value and the carry. -/
def carrySplit {w : Nat} (x : BitVec (w + 1)) : BitVec w × Bool := (x.setWidth w, x.getLsbD w)

theorem carrySplit_cons {w : Nat} (v : BitVec w) (c : Bool) : carrySplit (BitVec.cons c v) = (v, c) := by
  rw [carrySplit, BitVec.setWidth_cons, BitVec.getLsbD_cons, if_pos rfl]

theorem rotateRightCarryOf_eq {w : Nat} (n : Nat) (v : BitVec w) (c : Bool) :
    rotateRightCarryOf n v c = carrySplit ((BitVec.cons c v).rotateRight n) := rfl

theorem rotateLeftCarryOf_eq {w : Nat} (n : Nat) (v : BitVec w) (c : Bool) :
    rotateLeftCarryOf n v c = carrySplit ((BitVec.cons c v).rotateLeft n) := rfl

/-- By 0 steps every operation gives the value and the carry it was given. -/
theorem ShiftOp.value_zero {w : Nat} (op : ShiftOp) (v : BitVec w) (c : Bool) : op.value 0 v c = (v, c) := by
  cases op
  case ror => exact Prod.ext (rotateRight_zero v) rfl
  case rol => exact Prod.ext (rotateLeft_zero v) rfl
  case rorc => rw [value, rotateRightCarryOf_eq, rotateRight_zero, carrySplit_cons]
  case rolc => rw [value, rotateLeftCarryOf_eq, rotateLeft_zero, carrySplit_cons]
  case shr => exact Prod.ext ((ofNat_toNat_div_pow v 0).trans (BitVec.ushiftRight_zero v)) rfl
  case shl => exact Prod.ext ((ofNat_toNat_mul_pow v 0).trans (BitVec.shiftLeft_zero v)) rfl

/-! ## The steps of the model (R341 to R348) -/

theorem rorStep_eq (r : Byte × Bool) : rorStep r = (r.1.rotateRight 1, r.1.getLsbD 0) := by
  refine Prod.ext (BitVec.eq_of_getLsbD_eq fun i hi => ?_) rfl
  rw [rorStep, BitVec.getLsbD_append, BitVec.getLsbD_rotateRight]
  interval_cases i <;> simp

theorem rolStep_eq (r : Byte × Bool) : rolStep r = (r.1.rotateLeft 1, r.1.msb) := by
  refine Prod.ext (BitVec.eq_of_getLsbD_eq fun i hi => ?_) rfl
  rw [rolStep, BitVec.getLsbD_append, BitVec.getLsbD_rotateLeft]
  interval_cases i <;> simp

/-- Through carry nine bits turn. -/
theorem rorcStep_carrySplit (x : BitVec 9) : rorcStep (carrySplit x) = carrySplit (x.rotateRight 1) := by
  rw [rorcStep, carrySplit, carrySplit, BitVec.getLsbD_rotateRight]
  refine Prod.ext (BitVec.eq_of_getLsbD_eq fun i hi => ?_) (by simp)
  rw [BitVec.getLsbD_append, BitVec.getLsbD_setWidth, BitVec.getLsbD_rotateRight]
  interval_cases i <;> simp

/-- Through carry nine bits turn, to the left. -/
theorem rolcStep_carrySplit (x : BitVec 9) : rolcStep (carrySplit x) = carrySplit (x.rotateLeft 1) := by
  rw [rolcStep, carrySplit, carrySplit, BitVec.getLsbD_rotateLeft]
  refine Prod.ext (BitVec.eq_of_getLsbD_eq fun i hi => ?_) (by simp)
  rw [BitVec.getLsbD_append, BitVec.getLsbD_setWidth, BitVec.getLsbD_rotateLeft]
  interval_cases i <;> simp

/-- A zero that comes in at the high end. -/
theorem zero_append_extractLsb' {w : Nat} (v : BitVec (1 + w)) : 0#1 ++ v.extractLsb' 1 w = v >>> 1 := by
  refine BitVec.eq_of_getLsbD_eq fun i hi => ?_
  simp only [BitVec.getLsbD_append, BitVec.getLsbD_extractLsb', BitVec.getLsbD_zero, BitVec.getLsbD_ushiftRight]
  split
  · simp_all
  · exact (BitVec.getLsbD_of_ge v _ (by omega)).symm

/-- A zero that comes in at the low end. -/
theorem extractLsb'_append_zero {w : Nat} (v : BitVec (w + 1)) : v.extractLsb' 0 w ++ 0#1 = v <<< 1 := by
  refine BitVec.eq_of_getLsbD_eq fun i hi => ?_
  simp only [BitVec.getLsbD_append, BitVec.getLsbD_extractLsb', BitVec.getLsbD_zero, BitVec.getLsbD_shiftLeft]
  split
  · simp_all
  · simp_all; omega

theorem shrStep_eq (r : Byte × Bool) : shrStep r = (r.1 >>> 1, r.1.getLsbD 0) :=
  Prod.ext (zero_append_extractLsb' (w := 7) r.1) rfl

theorem shlStep_eq (r : Byte × Bool) : shlStep r = (r.1 <<< 1, r.1.msb) :=
  Prod.ext (extractLsb'_append_zero (w := 7) r.1) rfl

theorem shrwStep_eq (r : Word × Bool) : shrwStep r = (r.1 >>> 1, r.1.getLsbD 0) :=
  Prod.ext (zero_append_extractLsb' (w := 15) r.1) rfl

theorem shlwStep_eq (r : Word × Bool) : shlwStep r = (r.1 <<< 1, r.1.msb) :=
  Prod.ext (extractLsb'_append_zero (w := 15) r.1) rfl

/-! ## The forms as shared operations -/

/-- One step of an operation on a byte. -/
def ShiftOp.byteStep : ShiftOp → Byte × Bool → Byte × Bool
  | .ror => rorStep
  | .rol => rolStep
  | .rorc => rorcStep
  | .rolc => rolcStep
  | .shr => shrStep
  | .shl => shlStep

theorem ShiftOp.byteStep_value (op : ShiftOp) {n : Nat} (hn : n < 8) (v : Byte) (c : Bool) :
    op.byteStep (op.value n v c) = op.value (n + 1) v c := by
  cases op
  case ror => exact (rorStep_eq _).trans (rotateRightOf_succ hn v c).symm
  case rol => exact (rolStep_eq _).trans (rotateLeftOf_succ hn v c).symm
  case rorc => exact (rorcStep_carrySplit _).trans (congrArg carrySplit (rotateRight_rotateRight _ n 1))
  case rolc => exact (rolcStep_carrySplit _).trans (congrArg carrySplit (rotateLeft_rotateLeft _ n 1))
  case shr => exact (shrStep_eq _).trans (shiftRightOf_succ n v c).symm
  case shl => exact (shlStep_eq _).trans (shiftLeftOf_succ hn v c).symm

/-- The flags of a rotate or of a shift of a byte. -/
def ShiftOp.byteFlags (op : ShiftOp) : Nat → Nat → Byte × Bool → Psw → Psw :=
  if op.rotates then rotateFlags else shiftFlags

/-- A rotate or shift writes its register, then the flags. -/
theorem ByteShift.exec_eq {i : Instr} {op : ShiftOp} {r1 : Reg8} {n : BitVec 3} (h : ByteShift i op r1 n) (s : State) :
    let r := op.value n.toNat (readReg s.psw (reg8 r1) s) s.psw.cy
    exec i s = .next { writeReg s.psw (reg8 r1) r.1 s with
      pc := s.after 2, psw := op.byteFlags s.draws n.toNat r s.psw } := by
  intro r
  have hr : repeatStep op.byteStep n.toNat (readReg s.psw (reg8 r1) s, s.psw.cy) = r :=
    repeatStep_eq_of_step (op.value · _ _) (op.value_zero _ _) (fun _ hi => op.byteStep_value hi _ _) (by omega)
  rw [← (writeReg_only s.psw (reg8 r1) r.1 s).withPsw_advance_eq, ← hr]
  cases h
  all_goals rfl

/-- The shift of a pair that an instruction is. -/
theorem WordShift.exec_eq_shiftPair {i : Instr} {op : ShiftOp} {k : PairNo} {n : BitVec 3} (h : WordShift i op k n) (s : State) :
    ∃ f, exec i s = .next (shiftPair f k n s) ∧ ∀ m < 16, ∀ w c, f (op.value m w c) = op.value (m + 1) w c := by
  cases h
  case shrwRp1N => exact ⟨shrwStep, rfl, fun m _ w c => (shrwStep_eq _).trans (shiftRightOf_succ m w c).symm⟩
  case shlwRp1N => exact ⟨shlwStep, rfl, fun m hm w c => (shlwStep_eq _).trans (shiftLeftOf_succ hm w c).symm⟩

/-- A shift of a pair writes its pair, then the flags. -/
theorem WordShift.exec_eq {i : Instr} {op : ShiftOp} {k : PairNo} {n : BitVec 3} (h : WordShift i op k n) (s : State) :
    let r := op.value n.toNat (readPair s.psw k s) s.psw.cy
    exec i s = .next { writePair s.psw k r.1 s with
      pc := s.after 2, psw := shiftFlags s.draws n.toNat r s.psw } := by
  intro r
  obtain ⟨f, hexec, hstep⟩ := h.exec_eq_shiftPair s
  have hr : repeatStep f n.toNat (readPair s.psw k s, s.psw.cy) = r :=
    repeatStep_eq_of_step (op.value · _ _) (op.value_zero _ _) (fun m hm => hstep m hm _ _) (by omega)
  rw [hexec, ← (writePair_only s.psw k r.1 s).withPsw_advance_eq, ← hr]
  rfl

/-! ## Flags (R340(d), (e)) -/

theorem rotateFlags_of_ne {n : Nat} (h : n ≠ 0) (draws : Nat) (r : Byte × Bool) (p : Psw) :
    rotateFlags draws n r p = { p with pv := evenOnes 8 r.1.toNat, sub := false, cy := r.2 } := by
  rw [rotateFlags, if_neg h, parity_eq_evenOnes]

theorem shiftFlags_of_ne {w n : Nat} (h : n ≠ 0) (draws : Nat) (r : BitVec w × Bool) (p : Psw) :
    shiftFlags draws n r p = { p with s := decide (2 ^ (w - 1) ≤ r.1.toNat), z := decide (r.1.toNat = 0), ac := false,
                                      pv := evenOnes w r.1.toNat, sub := false, cy := r.2 } := by
  rw [shiftFlags, if_neg h, parity_eq_evenOnes, BitVec.msb_eq_decide, beq_zero_eq_decide]

theorem ShiftOp.byteFlags_of_ne (op : ShiftOp) {n : Nat} (h : n ≠ 0) (draws : Nat) (r : Byte × Bool) (p : Psw) :
    op.byteFlags draws n r p =
      if op.rotates then { p with pv := evenOnes 8 r.1.toNat, sub := false, cy := r.2 }
      else { p with s := decide (128 ≤ r.1.toNat), z := decide (r.1.toNat = 0), ac := false, pv := evenOnes 8 r.1.toNat,
                    sub := false, cy := r.2 } := by
  cases hop : op.rotates
  case false => rw [byteFlags, hop]; exact shiftFlags_of_ne h ..
  case true => rw [byteFlags, hop]; exact rotateFlags_of_ne h ..

/-- Settles O30: each form writes the closed form of its steps; by 0 the marked flags are the free bits of log 22. -/
theorem byteRotatesAndShifts : Obligations.ByteRotatesAndShifts := by
  intro i s op r1 n h v r q
  refine ⟨fun hn => ?steps, ?zero⟩
  case steps =>
    rw [h.exec_eq, op.byteFlags_of_ne (BitVec.toNat_ne.1 hn)]
  case zero =>
    rintro rfl
    have hvalue : op.value (0#3).toNat v s.psw.cy = (v, s.psw.cy) := op.value_zero v _
    refine ⟨(Config.freeBit s.draws 0, Config.freeBit s.draws 1), (Config.freeBit s.draws 2, Config.freeBit s.draws 3),
      Config.freeBit s.draws 4, ?_⟩
    rw [h.exec_eq, hvalue, ShiftOp.byteFlags]
    cases op.rotates
    all_goals rfl

/-- Settles O31: each form writes the closed form of its steps; by 0 the marked flags are the free bits of log 22. -/
theorem wordShifts : Obligations.WordShifts := by
  intro i s op k n h w r q
  refine ⟨fun hn => ?steps, ?zero⟩
  case steps =>
    rw [h.exec_eq, shiftFlags_of_ne (BitVec.toNat_ne.1 hn)]
    rfl
  case zero =>
    rintro rfl
    have hvalue : op.value (0#3).toNat w s.psw.cy = (w, s.psw.cy) := op.value_zero w _
    refine ⟨(Config.freeBit s.draws 0, Config.freeBit s.draws 1), (Config.freeBit s.draws 2, Config.freeBit s.draws 3),
      Config.freeBit s.draws 4, ?_⟩
    rw [h.exec_eq, hvalue]
    rfl

end Sys2Proof.Machine
end

section
/-!
ROR4 and ROL4 (O32, O33): what a digit rotate leaves, and that one takes back what the other did; ADJ4 (O34): the correction of the
digits of a sum and of a difference.
-/

namespace Sys2Proof.Machine

/-! ## Digits of a byte -/

theorem toNat_append_digits (x y : BitVec 4) : (x ++ y).toNat = x.toNat * 16 + y.toNat := by
  rw [BitVec.toNat_append, ← Nat.shiftLeft_add_eq_or_of_lt y.isLt, Nat.shiftLeft_eq]

theorem append_digits_eq_ofNat (x y : Byte) (i j : Nat) :
    x.extractLsb' i 4 ++ y.extractLsb' j 4 = BitVec.ofNat 8 (x.toNat / 2 ^ i % 16 * 16 + y.toNat / 2 ^ j % 16) := by
  apply BitVec.eq_of_toNat_eq
  rw [toNat_append_digits, toNat_field, toNat_field, BitVec.toNat_ofNat]
  omega

theorem high_digit (x : Byte) : x.toNat / 2 ^ 4 % 16 = x.toNat / 16 := Nat.mod_eq_of_lt (by omega)

theorem highLow_eq (x y : Byte) : highLow x y = BitVec.ofNat 8 (x.toNat / 16 * 16 + y.toNat % 16) := by
  rw [highLow, append_digits_eq_ofNat, high_digit, Nat.pow_zero, Nat.div_one]

theorem lowHigh_eq (x y : Byte) : lowHigh x y = BitVec.ofNat 8 (x.toNat % 16 * 16 + y.toNat / 16) := by
  rw [lowHigh, append_digits_eq_ofNat, high_digit, Nat.pow_zero, Nat.div_one]

theorem lowLow_eq (x y : Byte) : lowLow x y = BitVec.ofNat 8 (x.toNat % 16 * 16 + y.toNat % 16) := by
  rw [lowLow, append_digits_eq_ofNat, Nat.pow_zero, Nat.div_one, Nat.div_one]

theorem highHigh_eq (x y : Byte) : highHigh x y = BitVec.ofNat 8 (x.toNat / 16 * 16 + y.toNat / 16) := by
  rw [highHigh, append_digits_eq_ofNat, high_digit, high_digit]

theorem append_extractLsb'_digits (v : Byte) : v.extractLsb' 4 4 ++ v.extractLsb' 0 4 = v :=
  BitVec.extractLsb'_append_extractLsb'

theorem low_digit_append (x y : BitVec 4) : (x ++ y).extractLsb' 0 4 = y := BitVec.extractLsb'_append_eq_right

theorem high_digit_append (x y : BitVec 4) : (x ++ y).extractLsb' 4 4 = x := BitVec.extractLsb'_append_eq_left

/-! ## ROR4 and ROL4 -/

/-- A digit rotate whose byte is read and stored writes A after it. -/
theorem digitRotate_eq_next {newByte newAcc : Byte → Byte → Byte} {k : PairNo} {s u : State} {m : Byte}
    (hread : readByte 0 (readPair s.psw k s) s = .ok m)
    (hwrite : writeByte (readPair s.psw k s) (newByte (readReg s.psw s.psw.regA s) m) s = .ok u) :
    finish (digitRotate newByte newAcc k s) =
      .next ((writeReg s.psw s.psw.regA (newAcc (readReg s.psw s.psw.regA s) m) u).withPc (s.after 2)) := by
  rw [finish_eq_next, digitRotate_ok]
  exact ⟨m, u, hread, hwrite, (((writeByte_only hwrite).trans (writeReg_only ..)).advance_eq 2).symm⟩

theorem digitRotate_encodings : ∀ k : PairNo,
    encode (.ror4IndRp1 k) = [0x05#8, BitVec.ofNat 8 (0x88 + (k.toNat % 4 * 2 + k.toNat / 4))] ∧
      encode (.rol4IndRp1 k) = [0x05#8, BitVec.ofNat 8 (0x98 + (k.toNat % 4 * 2 + k.toNat / 4))] := by
  decide

/-- Settles O32: a digit rotate stores at the byte, then writes A. -/
theorem digitRotates : Obligations.DigitRotates := by
  refine ⟨fun k s u m => ?_, digitRotate_encodings⟩
  intro p a hread
  refine ⟨fun hwrite => ⟨?ror, writeByte_only hwrite⟩, fun hwrite => ⟨?rol, writeByte_only hwrite⟩⟩
  case ror =>
    rw [← lowHigh_eq] at hwrite
    rw [← highLow_eq]
    exact digitRotate_eq_next hread hwrite
  case rol =>
    rw [← lowLow_eq] at hwrite
    rw [← highHigh_eq]
    exact digitRotate_eq_next hread hwrite

/-! ## A byte that keeps what is stored -/

theorem readsAsHeld_of_plain {s : State} {a : Nat} (h : plain s a = true) : readsAsHeld s a = true := by
  unfold plain at h
  split at h
  · next hp => rw [readsAsHeld, hp]
  · next hp => rw [readsAsHeld, hp]
  · cases h

theorem writeByte_of_plain {s : State} {a : Addr} (h : plain s a.toNat = true) (v : Byte) :
    writeByte a v s = .ok (s.setByte a.toNat v) := by
  unfold plain at h
  split at h
  · next hp => rw [writeByte, hp]
  · next hp => rw [writeByte, hp]
  · cases h

/-- Stores below the SFR area move no address, as MM keeps its value. -/
theorem OnlyCells.plain_eq {l : List Nat} {s t : State} (h : OnlyCells l s t) (hl : ∀ a ∈ l, a < 0xFF00) (a : Nat) :
    plain t a = plain s a := by
  have hboard : t.board = s.board := by rw [h.rest]
  have hmm : t.byte mmAddr = s.byte mmAddr := h.bytes mmAddr fun hmem => absurd (hl _ hmem) (by decide)
  rw [plain, plain, State.place_congr hboard hmm]

/-! ## One digit rotate undoes the other (R351) -/

/-- A digit rotate over A and the byte at an address left these two there and went on. -/
structure DigitsRotated (p : Addr) (newByte newAcc : Byte) (s t : State) : Prop where
  psw : t.psw = s.psw
  wf : t.mem.wf = true
  plain : plain t p.toNat = true
  byte : t.byte p.toNat = newByte
  acc : readReg s.psw s.psw.regA t = newAcc
  cells : OnlyCells [p.toNat, regAddr s.psw.rbs s.psw.regA] s (t.withPc s.pc)

theorem digitRotate_of_plain (newByte newAcc : Byte → Byte → Byte) {k : PairNo} {s : State} {p : Addr}
    (hpair : readPair s.psw k s = p) (hwf : s.mem.wf = true) (hplain : plain s p.toNat = true)
    (hne : p.toNat ≠ regAddr s.psw.rbs s.psw.regA) :
    let a := readReg s.psw s.psw.regA s
    let m := s.byte p.toNat
    ∃ t, finish (digitRotate newByte newAcc k s) = .next t ∧ DigitsRotated p (newByte a m) (newAcc a m) s t := by
  subst hpair
  intro a m
  have hread := readByte_of_readsAsHeld 0 (readsAsHeld_of_plain hplain)
  have hwrite := writeByte_of_plain hplain (newByte a m)
  have hlow := readsAsHeld_lt (readsAsHeld_of_plain hplain)
  have hwf' := Memory.set_wf _ _ (newByte a m) hwf (hlow.trans (by decide))
  have hcells := (writeByte_only hwrite).trans (writeReg_only s.psw s.psw.regA (newAcc a m) _)
  refine ⟨_, digitRotate_eq_next hread hwrite, rfl, writeReg_wf _ _ _ _ hwf', ?plain, ?byte, ?acc, hcells⟩
  case plain =>
    refine (hcells.plain_eq (fun b hb => ?_) _).trans hplain
    obtain ⟨-, hreg⟩ := regAddr_range s.psw.rbs s.psw.regA
    simp only [List.cons_append, List.nil_append, List.mem_cons, List.not_mem_nil, or_false] at hb
    omega
  case byte => exact (State.byte_setByte_other _ _ _ _ hne.symm).trans (State.byte_setByte_same s _ _ hwf)
  case acc => exact (readReg_writeReg s.psw _ _ _ _ hwf').trans (if_pos rfl)

/-- A digit rotate undoes another whose assignments it takes back, on a byte that is not A. -/
theorem digitRotate_undoes {newByte newAcc oldByte oldAcc : Byte → Byte → Byte}
    (hbyte : ∀ a m, oldByte (newAcc a m) (newByte a m) = m) (hacc : ∀ a m, oldAcc (newAcc a m) (newByte a m) = a)
    (j : PairNo) {k : PairNo} {s : State} {p : Addr} (hpair : readPair s.psw k s = p) (hwf : s.mem.wf = true)
    (hplain : plain s p.toNat = true) (hne : p.toNat ≠ regAddr s.psw.rbs s.psw.regA) :
    ∃ t, finish (digitRotate newByte newAcc k s) = .next t ∧
      OnlyCells [p.toNat, regAddr s.psw.rbs s.psw.regA] s (t.withPc s.pc) ∧
      (readPair s.psw j t = p → ∃ u, finish (digitRotate oldByte oldAcc j t) = .next u ∧
        u.byte p.toNat = s.byte p.toNat ∧ readReg s.psw s.psw.regA u = readReg s.psw s.psw.regA s ∧ sameBytesBut [] s u) := by
  obtain ⟨t, ht, hst⟩ := digitRotate_of_plain newByte newAcc hpair hwf hplain hne
  refine ⟨t, ht, hst.cells, fun hpair' => ?_⟩
  obtain ⟨u, hu, htu⟩ := digitRotate_of_plain oldByte oldAcc (hst.psw ▸ hpair') hst.wf hst.plain (hst.psw ▸ hne)
  have hbyteBack := htu.byte
  have haccBack := htu.acc
  have hcellsBack := htu.cells.bytes
  rw [hst.psw, hst.acc, hst.byte, hbyte] at hbyteBack
  rw [hst.psw, hst.acc, hst.byte, hacc] at haccBack
  rw [hst.psw] at hcellsBack
  refine ⟨u, hu, hbyteBack, haccBack, fun a _ => ?_⟩
  by_cases ha : a ∈ [p.toNat, regAddr s.psw.rbs s.psw.regA]
  · obtain rfl | rfl : a = p.toNat ∨ a = regAddr s.psw.rbs s.psw.regA := by simpa using ha
    · exact hbyteBack
    · exact haccBack
  · exact (hcellsBack a ha).trans (hst.cells.bytes a ha)

/-- Settles O33: each digit goes back where it came from. -/
theorem digitRotatesAreInverses : Obligations.DigitRotatesAreInverses := by
  intro j k s hwf p acc hplain hne
  refine ⟨digitRotate_undoes (fun a m => ?_) (fun a m => ?_) j rfl hwf hplain hne,
    digitRotate_undoes (fun a m => ?_) (fun a m => ?_) j rfl hwf hplain hne⟩
  all_goals
    simp only [highLow, lowHigh, lowLow, highHigh, low_digit_append, high_digit_append, append_extractLsb'_digits]

/-! ## ADJ4 (R352) -/

theorem execAdj4_eq (s : State) :
    let q := s.psw
    let r := adjust4 (readReg q q.regA s) q.cy q.ac q.sub
    exec .adj4 s = .next { writeReg q q.regA r.1 s with
      pc := s.after 1,
      psw := { q with s := decide (128 ≤ r.1.toNat), z := decide (r.1.toNat = 0), pv := evenOnes 8 r.1.toNat, cy := r.2.1,
                      ac := r.2.2 } } := by
  intro q r
  have hpsw : q.adjusted r = { q with
      s := decide (128 ≤ r.1.toNat), z := decide (r.1.toNat = 0), pv := evenOnes 8 r.1.toNat, cy := r.2.1, ac := r.2.2 } := by
    rw [Psw.adjusted, parity_eq_evenOnes, BitVec.msb_eq_decide, beq_zero_eq_decide]
  rw [← hpsw, ← (writeReg_only q q.regA r.1 s).withPsw_advance_eq]
  rfl

theorem isBcd_iff {v : Byte} : isBcd v = true ↔ v.toNat / 16 < 10 ∧ v.toNat % 16 < 10 := by
  rw [isBcd, Bool.and_eq_true, decide_eq_true_iff, decide_eq_true_iff]

theorem bcd_of_digits {v : Byte} {high low : Nat} (hhigh : high < 10) (hlow : low < 10) (h : v.toNat = 16 * high + low) :
    isBcd v = true ∧ bcdValue v = 10 * high + low := by
  rw [isBcd_iff, bcdValue]
  omega

/-- A sum of two digits and a carry is a digit and a carry. -/
theorem exists_carry {n : Nat} (h : n ≤ 19) : ∃ (k : Bool) (d : Nat), d < 10 ∧ n = 10 * k.toNat + d := by
  by_cases hk : 10 ≤ n
  · exact ⟨true, n - 10, by omega, by rw [Bool.toNat_true]; omega⟩
  · exact ⟨false, n, by omega, by rw [Bool.toNat_false]; omega⟩

/-- A difference of two digits and a borrow is a digit and a borrow. -/
theorem exists_borrow {n : Int} (hlow : -10 ≤ n) (hhigh : n ≤ 9) : ∃ (k : Bool) (d : Nat), d < 10 ∧ n = d - 10 * k.toNat := by
  by_cases hk : n < 0
  · exact ⟨true, (n + 10).toNat, by omega, by rw [Bool.toNat_true]; omega⟩
  · exact ⟨false, n.toNat, by omega, by rw [Bool.toNat_false]; omega⟩

/-- A test that tells whether a bit is 1 is that bit. -/
theorem decide_eq_of_iff_toNat {P : Prop} [Decidable P] {k : Bool} (h : P ↔ k.toNat = 1) : decide P = k := by
  rw [Bool.eq_iff_iff, decide_eq_true_iff, h, Bool.toNat_eq_one]

theorem toNat_correction (k : Bool) (v : Byte) : (if k then v else 0#8).toNat = v.toNat * k.toNat := by
  cases k
  case false => rfl
  case true => exact (Nat.mul_one _).symm

/-- A digit sum of ten or more has 6 added, which makes its decimal carry the binary one (log 18): what is left are the digits. -/
theorem adjust4_sum {x : Byte} {cy ac k k' : Bool} {high low d e : Nat} (hd : d < 10) (he : e < 10)
    (hlow : low = 10 * k.toNat + d) (hhigh : high + k.toNat = 10 * k'.toNat + e) (hx : x.toNat = (16 * high + low) % 256)
    (hcy : cy = decide (256 ≤ 16 * high + low)) (hac : ac = decide (16 ≤ low)) :
    let r := adjust4 x cy ac false
    r.1.toNat = 16 * e + d ∧ r.2.1 = k' := by
  have hk := k.toNat_lt
  have hk' := k'.toNat_lt
  have hcarry : (decide (9 < (x.extractLsb' 0 4).toNat) || ac) = k := by
    rw [hac, toNat_low_nibble, ← Bool.decide_or]
    exact decide_eq_of_iff_toNat (by omega)
  have hcarry' : (decide (0x99 < x.toNat) || cy) = k' := by
    rw [hcy, ← Bool.decide_or]
    refine decide_eq_of_iff_toNat ?_
    by_cases hover : 256 ≤ 16 * high + low
    · omega
    · rw [hx, Nat.mod_eq_of_lt (by omega)]
      omega
  rw [adjust4, if_neg Bool.false_ne_true]
  simp only [hcarry, hcarry', BitVec.toNat_add, toNat_correction, BitVec.toNat_ofNat, and_true]
  omega

/-- A digit difference below zero borrowed sixteen and has 6 taken away, so that it borrowed ten (log 18): what is left are the
digits. -/
theorem adjust4_difference {x : Byte} {k k' : Bool} {high low : Int} {d e : Nat} (hd : d < 10) (he : e < 10)
    (hlow : low = d - 10 * k.toNat) (hhigh : high - k.toNat = e - 10 * k'.toNat)
    (hx : (x.toNat : Int) = (16 * high + low) % 256) :
    (adjust4 x k' k true).1.toNat = 16 * e + d := by
  have hk := k.toNat_lt
  have hk' := k'.toNat_lt
  rw [adjust4, if_pos rfl, BitVec.toNat_sub, BitVec.toNat_sub, toNat_correction, toNat_correction]
  simp only [BitVec.toNat_ofNat]
  omega

/-- The digits of a packed sum, with its carries, are what the correction needs. -/
theorem adjust4_addc {a b : Byte} (c : Bool) (p : Psw) (ha : isBcd a = true) (hb : isBcd b = true) :
    let f := aluPsw .addc c a b p
    let r := adjust4 (aluValue .addc c a b) f.cy f.ac f.sub
    isBcd r.1 = true ∧ bcdValue r.1 = (bcdValue a + bcdValue b + c.toNat) % 100 ∧
      r.2.1 = decide (100 ≤ bcdValue a + bcdValue b + c.toNat) := by
  intro f r
  have hc := c.toNat_lt
  rw [isBcd_iff] at ha hb
  obtain ⟨k, d, hd, hlow⟩ := exists_carry (n := a.toNat % 16 + b.toNat % 16 + c.toNat) (by omega)
  have hk := k.toNat_lt
  obtain ⟨k', e, he, hhigh⟩ := exists_carry (n := a.toNat / 16 + b.toNat / 16 + k.toNat) (by omega)
  have hk' := k'.toNat_lt
  obtain ⟨hres, hcy⟩ : r.1.toNat = 16 * e + d ∧ r.2.1 = k' :=
    adjust4_sum hd he hlow hhigh ((BitVec.toNat_ofNat ..).trans (by omega)) (decide_eq_decide.2 (by omega)) rfl
  have hsum : bcdValue a + bcdValue b + c.toNat = 100 * k'.toNat + (10 * e + d) := by
    rw [bcdValue, bcdValue]
    omega
  obtain ⟨hbcd, hvalue⟩ := bcd_of_digits he hd hres
  exact ⟨hbcd, by omega, hcy.trans (decide_eq_of_iff_toNat (by omega)).symm⟩

/-- The digits of a packed difference, with its borrows, are what the correction needs. -/
theorem adjust4_subc {a b : Byte} (c : Bool) (p : Psw) (ha : isBcd a = true) (hb : isBcd b = true) :
    let f := aluPsw .subc c a b p
    let r := adjust4 (aluValue .subc c a b) f.cy f.ac f.sub
    isBcd r.1 = true ∧ (bcdValue r.1 : Int) = ((bcdValue a : Int) - bcdValue b - c.toNat) % 100 ∧
      r.2.1 = decide (bcdValue a < bcdValue b + c.toNat) := by
  intro f r
  have hc := c.toNat_lt
  rw [isBcd_iff] at ha hb
  obtain ⟨k, d, hd, hlow⟩ := exists_borrow (n := (a.toNat % 16 : Int) - b.toNat % 16 - c.toNat) (by omega) (by omega)
  have hk := k.toNat_lt
  obtain ⟨k', e, he, hhigh⟩ := exists_borrow (n := (a.toNat / 16 : Int) - b.toNat / 16 - k.toNat) (by omega) (by omega)
  have hk' := k'.toNat_lt
  have hac : f.ac = k := decide_eq_of_iff_toNat (by omega)
  have hcy : f.cy = k' := decide_eq_of_iff_toNat (by omega)
  have hx := BitVec.toNat_ofInt (n := 8) (a.toNat - b.toNat - c.toNat)
  have hres : r.1.toNat = 16 * e + d := by
    rw [← adjust4_difference (x := aluValue .subc c a b) hd he hlow hhigh (by rw [aluValue]; omega), ← hac, ← hcy]
    rfl
  have hdiff : (bcdValue a : Int) - bcdValue b - c.toNat = 10 * e + d - 100 * k'.toNat := by
    rw [bcdValue, bcdValue]
    omega
  obtain ⟨hbcd, hvalue⟩ := bcd_of_digits he hd hres
  exact ⟨hbcd, by omega, hcy.trans (decide_eq_of_iff_toNat (by omega)).symm⟩

/-- Settles O34: the correction makes the packed sum or difference of decimal digits the decimal one. -/
theorem decimalAdjustGivesTheDecimalResult : Obligations.DecimalAdjustGivesTheDecimalResult :=
  ⟨execAdj4_eq, fun _ _ c p => adjust4_addc c p, fun _ _ c p => adjust4_subc c p⟩

end Sys2Proof.Machine
end

section
/-!
The bit forms into CY (O35) and into a bit of a byte (O36): each form is the shared operation of its family at the length of the
instruction.
-/

namespace Sys2Proof.Machine

/-! ## Destination CY -/

theorem CarryBit.exec_eq_toCarry {s : State} {i : Instr} {op : CarryOp} {o : ByteOperand} {bit : BitVec 3}
    (h : CarryBit s.psw i op o bit) : exec i s = finish (toCarry op.value i.length o bit s) := by
  cases h
  all_goals rfl

/-- Settles O35: the byte is only read, so behind the instruction the state differs by CY alone. -/
theorem bitFormsIntoCarry : Obligations.BitFormsIntoCarry := by
  intro i s op o bit v h hread
  rw [h.exec_eq_toCarry, finish_eq_next, toCarry_ok]
  exact ⟨v, hread, ((OnlyCells.refl s).withPsw_advance_eq _ _).symm⟩

/-! ## Destination a bit -/

theorem BitWrite.exec_eq_toBit {s : State} {i : Instr} {op : BitOp} {o : ByteOperand} {bit : BitVec 3}
    (h : BitWrite s.psw i op o bit) : exec i s = finish (toBit op.value i.length o bit s) := by
  cases h
  all_goals rfl

/-- Settles O36: the bits fix the byte written back as `putBit` of the byte read, and its store reaches the cells of the operand. -/
theorem bitFormsIntoMemory : Obligations.BitFormsIntoMemory := by
  intro i s u op o bit v w h hread hbits hwrite
  have hw : w = putBit v bit (op.value s.psw.cy (bitOf v bit)) := eq_putBit hbits
  exact exec_eq_next_of_advance h.exec_eq_toBit (ByteOperand.write_only hwrite) (toBit_ok.2 ⟨v, u, hread, hw ▸ hwrite, rfl⟩)

end Sys2Proof.Machine
end

section
/-!
Calls, BRK, the returns, and PUSH PSW and POP PSW (O38, O39, O40, O45): each is its shared stack operation, whose stores and reads are
given.
-/

namespace Sys2Proof.Machine

/-! ## Calls (R401 to R405) -/

/-- Two stores below SP are a push. -/
theorem push_of_writes {s u v : State} {w : Word} (hu : writeByte (s.sp - 1#16) (Word.hi w) s = .ok u)
    (hv : writeByte (s.sp - 2#16) (Word.lo w) u = .ok v) : push w s = .ok (v.withSp (s.sp - 2#16)) :=
  push_ok.2 ⟨u, v, hu, hv, rfl⟩

/-- A call is a push of the address after it, then its target. -/
theorem call_of_push {n : Nat} {s t : State} (h : push (s.after n) s = .ok t) (target : Addr) :
    call n target s = .ok (t.withPc target) :=
  call_ok.2 ⟨t, by rwa [s.pc_add_eq_after], rfl⟩

theorem callf_target (f11 : BitVec 11) : 0x0800#16 + f11.zeroExtend 16 = BitVec.ofNat 16 (0x800 + f11.toNat) := by
  rw [BitVec.ofNat_add, BitVec.ofNat_toNat]

/-- The entry of the table of CALLT, whichever half TPF selects. -/
theorem callt_entry (upper : Bool) (t5 : BitVec 5) :
    (if upper then 0x8040#16 else 0x0040#16) + 2#16 * t5.zeroExtend 16 =
      BitVec.ofNat 16 ((if upper then 0x8040 else 0x0040) + 2 * t5.toNat) := by
  rw [BitVec.ofNat_add, BitVec.ofNat_mul, BitVec.ofNat_toNat, apply_ite (BitVec.ofNat 16)]

theorem DirectCall.exec_eq_call {s : State} {i : Instr} {target : Addr} (h : DirectCall s i target) :
    exec i s = finish (call i.length target s) := by
  cases h with
  | callAddr16 | callRp1 => rfl
  | callfAddr11 f11 => exact congrArg (fun a => finish (call 2 a s)) (callf_target f11)

/-- Settles O38: the two stores are the push of the call; CALLT reads its table after the push, CALL [rp1] its target before it. -/
theorem callsPushTheReturnAddress : Obligations.CallsPushTheReturnAddress := by
  intro s u v i ret w hu hv
  have hpush : push ret s = .ok w := push_of_writes hu hv
  refine ⟨fun target h => ?direct, ?table, ?indirect, ?refetch, (writeByte_only hu).trans (writeByte_only hv)⟩
  case direct => rw [h.exec_eq_call, call_of_push hpush, finish_ok]
  case table =>
    rintro t5 target rfl hread
    refine (finish_eq_next _ _).2 (callTable_ok.2 ⟨w, target, hpush, ?_, rfl⟩)
    rwa [callt_entry]
  case indirect =>
    rintro k target rfl hread
    exact (finish_eq_next _ _).2 (bind_eq_ok.2 ⟨target, hread, call_of_push hpush target⟩)
  case refetch =>
    rintro (⟨target, h⟩ | ⟨t5, rfl⟩ | ⟨k, rfl⟩)
    · cases h <;> rfl
    · rfl
    · rfl

/-! ## BRK (R406) -/

/-- Settles O39: the four stores are those of `enterVector`. -/
theorem brkEntersThroughItsVector : Obligations.BrkEntersThroughItsVector := by
  intro s t u v w target ht hu hv hw hread
  refine ⟨(finish_eq_next _ _).2 ?_,
    (((writeByte_only ht).trans (writeByte_only hu)).trans (writeByte_only hv)).trans (writeByte_only hw)⟩
  exact s.pc_add_eq_after 1 ▸ enterVector_of_writes .software ht hu hv hw hread

/-! ## RET, RETI (R407, R408) -/

/-- The PSW that two bytes restore has these bytes, but for the bits of PSWH that hold no field. -/
theorem Psw.restore_bytes (p : Psw) (low high : Byte) :
    (p.restore low high).low = low ∧ (p.restore low high).high = high &&& 0x71#8 :=
  ⟨p.withLow_low low, Psw.withHigh_high _ high⟩

/-- Settles O40: the reads are those of the pop of pc and of `returnVector`. -/
theorem returnsPopTheStack : Obligations.ReturnsPopTheStack := by
  intro s target hread
  refine ⟨rfl, rfl, (finish_eq_next _ _).2 (bind_eq_ok.2 ⟨target, hread, rfl⟩), fun low high hlow hhigh => ?_⟩
  obtain ⟨hq, hq'⟩ := s.psw.restore_bytes low high
  exact ⟨_, hq, hq', (finish_eq_next _ _).2 (returnVector_ok.2 ⟨target, low, high, hread, hlow, hhigh, rfl⟩)⟩

/-! ## PUSH PSW, POP PSW (R410, R413) -/

/-- Settles O45: PUSH PSW pushes the word of the PSW, POP PSW restores it from the word at SP. -/
theorem pushPswAndPopPsw : Obligations.PushPswAndPopPsw := by
  refine fun s => ⟨fun u v hu hv => ?push, fun low high hlow hhigh => ?pop⟩
  case push =>
    have hcells := (writeByte_only hu).trans (writeByte_only hv)
    refine ⟨(finish_eq_next _ _).2 (bind_eq_ok.2 ⟨v.withSp (s.sp - 2#16), push_of_writes (u := u) ?_ ?_, ?_⟩), hcells⟩
    · rwa [Psw.word, hi_ofBytes]
    · rwa [Psw.word, lo_ofBytes]
    · rw [State.advance, State.withSp_pc, hcells.pc, s.pc_add_eq_after]
      rfl
  case pop =>
    obtain ⟨hq, hq'⟩ := s.psw.restore_bytes low high
    refine ⟨_, hq, hq', (finish_eq_next _ _).2 (bind_eq_ok.2 ⟨_, readWord_ok.2 ⟨low, high, hlow, hhigh, rfl⟩, ?_⟩)⟩
    rw [lo_ofBytes, hi_ofBytes, State.advance, State.withSp_pc, State.withPsw_pc, s.pc_add_eq_after]
    rfl

end Sys2Proof.Machine
end

section
/-!
A stack in plain memory: the addresses below and above its pointer, one word stored below it, and words stored one after the other.
-/

namespace Sys2Proof.Machine

/-! ## The addresses below and above a pointer -/

/-- The `n` addresses below a pointer, the nearest first. -/
def below (a : Addr) (n : Nat) : List Nat := (List.range n).map fun j => (a - BitVec.ofNat 16 (j + 1)).toNat

/-- The `n` addresses from a pointer up. -/
def above (a : Addr) (n : Nat) : List Nat := (List.range n).map fun j => (a + BitVec.ofNat 16 j).toNat

theorem mem_below {a : Addr} {n c : Nat} : c ∈ below a n ↔ ∃ j < n, (a - BitVec.ofNat 16 (j + 1)).toNat = c := by
  simp [below]

theorem mem_above {a : Addr} {n c : Nat} : c ∈ above a n ↔ ∃ j < n, (a + BitVec.ofNat 16 j).toNat = c := by
  simp [above]

theorem forall_below {a : Addr} {n : Nat} {P : Nat → Prop} (h : ∀ j, 1 ≤ j → j ≤ n → P (a - BitVec.ofNat 16 j).toNat) :
    ∀ c ∈ below a n, P c := by
  intro c hc
  obtain ⟨j, hj, rfl⟩ := mem_below.1 hc
  exact h (j + 1) (by omega) (by omega)

theorem forall_above {a : Addr} {n : Nat} {P : Nat → Prop} (h : ∀ j, j < n → P (a + BitVec.ofNat 16 j).toNat) :
    ∀ c ∈ above a n, P c := by
  intro c hc
  obtain ⟨j, hj, rfl⟩ := mem_above.1 hc
  exact h j hj

theorem sub_sub_ofNat (a : Addr) (m n : Nat) : a - BitVec.ofNat 16 m - BitVec.ofNat 16 n = a - BitVec.ofNat 16 (m + n) := by
  rw [BitVec.ofNat_add]
  bv_omega

theorem add_add_ofNat (a : Addr) (m n : Nat) : a + BitVec.ofNat 16 m + BitVec.ofNat 16 n = a + BitVec.ofNat 16 (m + n) := by
  rw [BitVec.ofNat_add, BitVec.add_assoc]

theorem sub_add_ofNat (a : Addr) {m n : Nat} (h : n ≤ m) : a - BitVec.ofNat 16 m + BitVec.ofNat 16 n = a - BitVec.ofNat 16 (m - n) := by
  rw [show m = m - n + n by omega, ← sub_sub_ofNat, BitVec.sub_add_cancel, Nat.add_sub_cancel]

theorem sub_two_add_one (a : Addr) : a - 2#16 + 1#16 = a - 1#16 := sub_add_ofNat a (m := 2) (n := 1) (by decide)

/-- The addresses below a pointer are those of one word and those below it. -/
theorem below_add_two (a : Addr) (n : Nat) : below a (n + 2) = [(a - 1#16).toNat, (a - 2#16).toNat] ++ below (a - 2#16) n := by
  simp only [below, List.range_succ_eq_map, List.map_cons, List.map_map, List.cons_append, List.nil_append]
  congr 3
  funext j
  exact congrArg BitVec.toNat ((sub_sub_ofNat a 2 (j + 1)).trans (by rw [show 2 + (j + 1) = j + 1 + 1 + 1 by omega]; rfl)).symm

theorem above_add_two (a : Addr) (n : Nat) : above a (n + 2) = [a.toNat, (a + 1#16).toNat] ++ above (a + 2#16) n := by
  simp only [above, List.range_succ_eq_map, List.map_cons, List.map_map, List.cons_append, List.nil_append, BitVec.add_zero]
  congr 3
  funext j
  exact congrArg BitVec.toNat ((add_add_ofNat a 2 j).trans (by rw [show 2 + j = j + 1 + 1 by omega]; rfl)).symm

/-- What is popped after `n` bytes were pushed lies where they were pushed. -/
theorem mem_below_of_mem_above {a : Addr} {n c : Nat} (h : c ∈ above (a - BitVec.ofNat 16 n) n) : c ∈ below a n := by
  obtain ⟨j, hj, rfl⟩ := mem_above.1 h
  refine mem_below.2 ⟨n - j - 1, by omega, ?_⟩
  rw [sub_add_ofNat a hj.le, show n - j - 1 + 1 = n - j by omega]

/-- The two bytes of a word pushed lie apart from those pushed after it. -/
theorem word_not_mem_below (a : Addr) {n : Nat} (hn : n + 2 ≤ 0x10000) :
    (a - 2#16).toNat ∉ below (a - 2#16) n ∧ (a - 2#16 + 1#16).toNat ∉ below (a - 2#16) n := by
  constructor <;> intro h <;> obtain ⟨j, hj, he⟩ := mem_below.1 h <;> bv_omega

/-! ## Reading over a frame -/

theorem sameBytesBut.wordAt_eq {l : List Nat} {s t : State} (h : sameBytesBut l s t) {a : Addr} (hlow : a.toNat ∉ l)
    (hhigh : (a + 1#16).toNat ∉ l) : t.wordAt a = s.wordAt a := by
  rw [State.wordAt, State.wordAt, h _ hlow, h _ hhigh]

theorem sameBytesBut.readPair_eq {l : List Nat} {s t : State} (h : sameBytesBut l s t) {p : Psw} {k : PairNo}
    (hl : ∀ c ∈ pairCells p k, c ∉ l) : readPair p k t = readPair p k s := by
  rw [readPair, readPair, readReg, readReg, readReg, readReg, h _ (hl _ (by simp [pairCells])), h _ (hl _ (by simp [pairCells]))]

theorem mem_pairCells {p : Psw} {k : PairNo} {c : Nat} : c ∈ pairCells p k → ∃ r, c = regAddr p.rbs r := by
  intro h
  obtain rfl | rfl : c = regAddr p.rbs (k ++ 0#1) ∨ c = regAddr p.rbs (k ++ 1#1) := by simpa [pairCells] using h
  · exact ⟨_, rfl⟩
  · exact ⟨_, rfl⟩

theorem pairCells_lt {p : Psw} {k : PairNo} {c : Nat} (h : c ∈ pairCells p k) : c < 0xFF00 := by
  obtain ⟨r, rfl⟩ := mem_pairCells h
  exact (regAddr_range p.rbs r).2

/-- Two pairs of one bank lie apart. -/
theorem pairCells_disjoint {p : Psw} {k j : PairNo} (h : k ≠ j) : ∀ c ∈ pairCells p k, c ∉ pairCells p j := by
  simp [pairCells, regAddr_inj, pair_append_inj, h]

theorem not_mem_flatMap_pairCells {p : Psw} {k : PairNo} {l : List PairNo} (h : k ∉ l) :
    ∀ c ∈ pairCells p k, c ∉ l.flatMap (pairCells p) := by
  intro c hc hl
  obtain ⟨j, hj, hcj⟩ := List.mem_flatMap.1 hl
  exact pairCells_disjoint (by rintro rfl; exact h hj) c hc hcj

theorem flatMap_pairCells_lt {p : Psw} {l : List PairNo} {c : Nat} (h : c ∈ l.flatMap (pairCells p)) : c < 0xFF00 := by
  obtain ⟨k, -, hk⟩ := List.mem_flatMap.1 h
  exact pairCells_lt hk

/-- Stores below the SFR area leave the PSW. -/
theorem OnlyCells.psw_eq {l : List Nat} {s t : State} (h : OnlyCells l s t) (hl : ∀ c ∈ l, c < 0xFF00) : t.psw = s.psw :=
  h.psw (fun hm => absurd (hl _ hm) (by decide)) fun hm => absurd (hl _ hm) (by decide)

theorem plain_lt {s : State} {a : Nat} (h : plain s a = true) : a < 0xFF00 := readsAsHeld_lt (readsAsHeld_of_plain h)

theorem readWord_of_plain (k : Nat) {s : State} {a : Addr} (hlow : plain s a.toNat = true)
    (hhigh : plain s (a + 1#16).toNat = true) : readWord k a s = .ok (s.wordAt a) :=
  readWord_ok.2 ⟨_, _, readByte_of_readsAsHeld k (readsAsHeld_of_plain hlow),
    readByte_of_readsAsHeld k (readsAsHeld_of_plain hhigh), rfl⟩

/-- Moving SP on both sides leaves a frame. -/
theorem OnlyCells.withSp {l : List Nat} {s t : State} (h : OnlyCells l s t) (a : Addr) : OnlyCells l (s.withSp a) (t.withSp a) := by
  refine ⟨h.bytes, h.pc, fun _ _ => rfl, h.psw, h.sources, h.levels, h.queue, ?_⟩
  have e := h.rest
  unfold sameRest at e ⊢
  rw [e]
  rfl

/-- Another PSW on both sides leaves a frame. -/
theorem OnlyCells.withPsw {l : List Nat} {s t : State} (h : OnlyCells l s t) (p : Psw) : OnlyCells l (s.withPsw p) (t.withPsw p) := by
  refine ⟨h.bytes, h.pc, h.sp, fun _ _ => rfl, h.sources, h.levels, h.queue, ?_⟩
  have e := h.rest
  unfold sameRest at e ⊢
  rw [e]
  rfl

/-! ## One word stored below a pointer -/

/-- The state once a word is stored below a pointer in plain memory (`pushAt_of_plain`). -/
def State.stored (s : State) (a : Addr) (w : Word) : State :=
  (s.setByte (a - 1#16).toNat (Word.hi w)).setByte (a - 2#16).toNat (Word.lo w)

theorem stored_only (s : State) (a : Addr) (w : Word) : OnlyCells [(a - 1#16).toNat, (a - 2#16).toNat] s (s.stored a w) :=
  (setByte_only s _ _).trans (setByte_only _ _ _)

theorem pushAt_of_plain {s : State} {a : Addr} (hhigh : plain s (a - 1#16).toNat = true) (hlow : plain s (a - 2#16).toNat = true)
    (w : Word) : pushAt a w s = .ok (s.stored a w) := by
  refine pushAt_ok.2 ⟨_, writeByte_of_plain hhigh _, writeByte_of_plain ?_ _⟩
  rwa [(setByte_only s _ _).plain_eq (by simpa using plain_lt hhigh)]

theorem wordAt_stored {s : State} {a : Addr} (hhigh : plain s (a - 1#16).toNat = true) (w : Word) (hs : s.mem.wf = true) :
    (s.stored a w).wordAt (a - 2#16) = w := by
  have hwf : (s.setByte (a - 1#16).toNat (Word.hi w)).mem.wf = true := writeByte_wf (writeByte_of_plain hhigh _) hs
  have hne : (a - 2#16).toNat ≠ (a - 1#16).toNat := by bv_omega
  rw [State.wordAt, State.stored, State.byte_setByte_same _ _ _ hwf, sub_two_add_one, State.byte_setByte_other _ _ _ _ hne,
    State.byte_setByte_same _ _ _ hs, ofBytes_lo_hi]

/-! ## Words stored one after the other -/

/-- Words were stored in turn below a pointer, the first nearest to it; nothing else changed but the listed cells. -/
structure PushedWords (cells : List Nat) (a : Addr) (ws : List Word) (s t : State) : Prop where
  only : OnlyCells (cells ++ below a (2 * ws.length)) s t
  words : ∀ (j : Nat) (w : Word), ws[j]? = some w → t.wordAt (a - BitVec.ofNat 16 (2 * j + 2)) = w

theorem PushedWords.nil (cells : List Nat) (a : Addr) (s : State) : PushedWords cells a [] s s :=
  ⟨(OnlyCells.refl s).mono fun _ h => absurd h List.not_mem_nil, fun _ _ h => absurd h (by simp)⟩

theorem PushedWords.withSp {cells : List Nat} {a : Addr} {ws : List Word} {s t : State} (h : PushedWords cells a ws s t) (b : Addr) :
    PushedWords cells a ws (s.withSp b) (t.withSp b) := ⟨h.only.withSp b, h.words⟩

/-- A word is stored, the listed cells may change, and the other words are stored below it. -/
theorem PushedWords.cons {cells : List Nat} {a : Addr} {w : Word} {ws : List Word} {s u t : State}
    (hlen : 2 * ws.length + 2 ≤ 0x10000) (hword : (s.stored a w).wordAt (a - 2#16) = w)
    (hlow : (a - 2#16).toNat ∉ cells) (hhigh : (a - 2#16 + 1#16).toNat ∉ cells)
    (hcells : OnlyCells cells (s.stored a w) u) (h : PushedWords cells (a - 2#16) ws u t) :
    PushedWords cells a (w :: ws) s t := by
  refine ⟨(((stored_only s a w).trans hcells).trans h.only).mono fun c hc => ?_, fun j x hx => ?_⟩
  · rw [List.length_cons, Nat.mul_add_one, below_add_two]
    simp only [List.mem_append] at hc ⊢
    tauto
  · cases j with
    | zero =>
      obtain ⟨hlow', hhigh'⟩ := word_not_mem_below a hlen
      rw [← Option.some.inj hx, h.only.bytes.wordAt_eq (List.mem_append.not.2 (not_or.2 ⟨hlow, hlow'⟩))
        (List.mem_append.not.2 (not_or.2 ⟨hhigh, hhigh'⟩)),
        hcells.bytes.wordAt_eq hlow hhigh, hword]
    | succ j =>
      rw [← h.words j x hx, show a - 2#16 = a - BitVec.ofNat 16 2 from rfl, sub_sub_ofNat,
        show 2 + (2 * j + 2) = 2 * (j + 1) + 2 by omega]

/-- Two words stored in turn below a pointer in plain memory. -/
theorem pushAt_twice_of_plain {a : Addr} {w x : Word} {s u v : State} (hs : s.mem.wf = true)
    (hstack : ∀ c ∈ below a 4, plain s c = true) (hu : pushAt a w s = .ok u) (hv : pushAt (a - 2#16) x u = .ok v) :
    v = (s.stored a w).stored (a - 2#16) x ∧ PushedWords [] a [w, x] s v := by
  have hplain (j : Nat) (hj : j < 4) : plain s (a - BitVec.ofNat 16 (j + 1)).toNat = true := hstack _ (mem_below.2 ⟨j, hj, rfl⟩)
  have hone := hplain 0 (by decide)
  have htwo := hplain 1 (by decide)
  obtain rfl := Except.ok.inj (hu.symm.trans (pushAt_of_plain hone htwo w))
  have hkeeps := (stored_only s a w).plain_eq (by simpa using ⟨plain_lt hone, plain_lt htwo⟩)
  have hthree : plain (s.stored a w) (a - 2#16 - 1#16).toNat = true := by
    rw [hkeeps, show a - 2#16 - 1#16 = _ from sub_sub_ofNat a 2 1]
    exact hplain 2 (by decide)
  have hfour : plain (s.stored a w) (a - 2#16 - 2#16).toNat = true := by
    rw [hkeeps, show a - 2#16 - 2#16 = _ from sub_sub_ofNat a 2 2]
    exact hplain 3 (by decide)
  obtain rfl := Except.ok.inj (hv.symm.trans (pushAt_of_plain hthree hfour x))
  exact ⟨rfl, .cons (by simp) (wordAt_stored hone _ hs) List.not_mem_nil List.not_mem_nil (.refl _)
    (.cons (by simp) (wordAt_stored hthree _ (pushAt_wf hu hs)) List.not_mem_nil List.not_mem_nil (.refl _) (.nil _ _ _))⟩

end Sys2Proof.Machine
end

section
/-!
PUSH, POP, PUSHU and POPU of a post byte (O42, O43, O44): by induction on the selected items, on a stack in plain memory and off the
active bank.
-/

namespace Sys2Proof.Machine

/-! ## The order of a post byte (R415) -/

theorem pushOrder_nodup (post : Byte) : (pushOrder post).Nodup := List.Nodup.filter _ (by decide)

theorem pushOrder_length_le (post : Byte) : (pushOrder post).length ≤ 8 := List.length_filter_le _ _

theorem popOrder_eq_reverse (post : Byte) : popOrder post = (pushOrder post).reverse := by
  rw [popOrder, pushOrder, ← List.filter_reverse]
  rfl

theorem popOrder_nodup (post : Byte) : (popOrder post).Nodup := by
  rw [popOrder_eq_reverse]
  exact List.nodup_reverse.2 (pushOrder_nodup post)

theorem popOrder_length (post : Byte) : (popOrder post).length = (pushOrder post).length := by
  rw [popOrder_eq_reverse, List.length_reverse]

theorem mem_popOrder {post : Byte} {k : PairNo} : k ∈ popOrder post ↔ k ∈ pushOrder post := by
  rw [popOrder_eq_reverse, List.mem_reverse]

theorem mem_flatMap_popOrder {post : Byte} {f : PairNo → List Nat} {c : Nat} :
    c ∈ (popOrder post).flatMap f ↔ c ∈ (pushOrder post).flatMap f := by
  simp only [List.mem_flatMap, mem_popOrder]

/-! ## Completion -/

/-- An instruction of `n` bytes whose operation answers `t`, which has the pc of `s`, goes on behind itself. -/
theorem finish_advance_eq_next {x : Except Stop State} {s t : State} (hx : x = .ok t) (hpc : t.pc = s.pc) (n : Nat) :
    finish (x >>= fun t => .ok (t.advance n)) = .next (t.withPc (s.after n)) := by
  rw [hx, ok_bind, finish_ok, State.advance, hpc, s.pc_add_eq_after]

theorem of_finish_advance_eq_next {x : Except Stop State} {t u : State} {n : Nat} (hx : x = .ok t)
    (h : finish (x >>= fun t => .ok (t.advance n)) = .next u) : u = t.advance n := by
  rw [hx, ok_bind, finish_ok] at h
  exact (Host.Outcome.next.inj h).symm

/-! ## A stack in plain memory, off the active bank -/

/-- The listed addresses lie in plain memory and are no registers of the bank. -/
def Room (p : Psw) (s : State) (l : List Nat) : Prop := ∀ c ∈ l, plain s c = true ∧ ∀ r : RegNo, c ≠ regAddr p.rbs r

theorem Room.mono {p : Psw} {s : State} {l m : List Nat} (h : Room p s l) (hl : ∀ c ∈ m, c ∈ l) : Room p s m :=
  fun c hc => h c (hl c hc)

/-- Stores below the SFR area leave the room for a stack. -/
theorem Room.of_only {p : Psw} {s t : State} {l m : List Nat} (h : Room p s l) (ht : OnlyCells m s t) (hm : ∀ c ∈ m, c < 0xFF00) :
    Room p t l :=
  fun c hc => ⟨(ht.plain_eq hm c).trans (h c hc).1, (h c hc).2⟩

theorem Room.not_mem_pairCells {p : Psw} {s : State} {l : List Nat} (h : Room p s l) {c : Nat} (hc : c ∈ l) (k : PairNo) :
    c ∉ pairCells p k := by
  intro hk
  obtain ⟨r, e⟩ := mem_pairCells hk
  exact (h c hc).2 r e

/-- Changes within the stack leave the pairs of the bank. -/
theorem Room.readPair_eq {p : Psw} {s t : State} {l : List Nat} (h : Room p s l) (ht : sameBytesBut l s t) (k : PairNo) :
    readPair p k t = readPair p k s :=
  ht.readPair_eq fun _ hc hl => h.not_mem_pairCells hl k hc

section
variable {p : Psw} {s : State} {a : Addr} {n : Nat} (hroom : Room p s (below a (2 * (n + 1))))
include hroom

theorem Room.word : Room p s [(a - 1#16).toNat, (a - 2#16).toNat] :=
  hroom.mono fun _ hc => by
    rw [Nat.mul_add_one, below_add_two]
    exact List.mem_append_left _ hc

theorem Room.pushAt_eq (w : Word) : pushAt a w s = .ok (s.stored a w) :=
  pushAt_of_plain (hroom.word _ (by simp)).1 (hroom.word _ (by simp)).1 w

theorem Room.wordAt_stored (w : Word) (hs : s.mem.wf = true) : (s.stored a w).wordAt (a - 2#16) = w :=
  Machine.wordAt_stored (hroom.word _ (by simp)).1 w hs

theorem Room.readPair_stored (w : Word) (k : PairNo) : readPair p k (s.stored a w) = readPair p k s :=
  hroom.word.readPair_eq (stored_only s a w).bytes k

/-- Below a word that is stored the room is as before. -/
theorem Room.stored (w : Word) : Room p (s.stored a w) (below (a - 2#16) (2 * n)) := by
  refine (hroom.mono fun c hc => ?_).of_only (stored_only s a w) fun _ hc => plain_lt (hroom.word _ hc).1
  rw [Nat.mul_add_one, below_add_two]
  exact List.mem_append_right _ hc

end

section
variable {p : Psw} {s : State} {a : Addr} {n : Nat} (hroom : Room p s (above a (2 * (n + 1))))
include hroom

theorem Room.lowest : Room p s [a.toNat, (a + 1#16).toNat] :=
  hroom.mono fun _ hc => by
    rw [Nat.mul_add_one, above_add_two]
    exact List.mem_append_left _ hc

theorem Room.rest : Room p s (above (a + 2#16) (2 * n)) :=
  hroom.mono fun _ hc => by
    rw [Nat.mul_add_one, above_add_two]
    exact List.mem_append_right _ hc

theorem Room.readWord_eq : readWord 0 a s = .ok (s.wordAt a) :=
  readWord_of_plain 0 (hroom.lowest _ (by simp)).1 (hroom.lowest _ (by simp)).1

end

/-- The words of a stack that registers alone have changed since. -/
theorem Room.wordAt_above {p : Psw} {s t : State} {a : Addr} {m : Nat} (h : Room p s (above a (2 * m))) {cells : List Nat}
    (ht : sameBytesBut cells s t) (hcells : ∀ c ∈ cells, ∃ r, c = regAddr p.rbs r) {j : Nat} (hj : j < m) :
    t.wordAt (a + BitVec.ofNat 16 (2 * j)) = s.wordAt (a + BitVec.ofNat 16 (2 * j)) := by
  have hoff {c : Nat} (hc : c ∈ above a (2 * m)) : c ∉ cells := fun hm => by
    obtain ⟨r, e⟩ := hcells c hm
    exact (h c hc).2 r e
  refine ht.wordAt_eq (hoff (mem_above.2 ⟨2 * j, by omega, rfl⟩)) (hoff (mem_above.2 ⟨2 * j + 1, by omega, ?_⟩))
  rw [BitVec.ofNat_add, ← BitVec.add_assoc]

/-! ## PUSH (R409) -/

/-- Pushing pairs stores them in turn below SP. -/
theorem pushPairs_of_room (p : Psw) (l : List PairNo) {s : State} (hs : s.mem.wf = true) (hlen : l.length ≤ 8)
    (hroom : Room p s (below s.sp (2 * l.length))) :
    ∃ t, pushPairs p l s = .ok t ∧ t.sp = s.sp - BitVec.ofNat 16 (2 * l.length) ∧ t.mem.wf = true ∧
      PushedWords [] s.sp (l.map fun k => readPair p k s) s (t.withSp s.sp) := by
  induction l generalizing s with
  | nil => exact ⟨s, rfl, by simp, hs, .nil _ _ _⟩
  | cons k l ih =>
    simp only [List.length_cons] at hlen hroom
    have hpush := hroom.pushAt_eq (readPair p k s)
    obtain ⟨t, ht, hsp, hwf, hpushed⟩ := ih (s := (s.stored s.sp (readPair p k s)).withSp (s.sp - 2#16)) (pushAt_wf hpush hs :)
      (by omega) (hroom.stored _)
    refine ⟨t, pushPairs_cons_ok.2 ⟨_, bind_eq_ok.2 ⟨_, hpush, rfl⟩, ht⟩, ?_, hwf, ?_⟩
    · rw [hsp, List.length_cons, Nat.mul_add_one, Nat.add_comm]
      exact sub_sub_ofNat s.sp 2 _
    · have hitems : (l.map fun j => readPair p j ((s.stored s.sp (readPair p k s)).withSp (s.sp - 2#16))) =
          l.map fun j => readPair p j s := List.map_congr_left fun j _ => hroom.readPair_stored _ j
      rw [hitems] at hpushed
      exact .cons (by rw [List.length_map]; omega) (hroom.wordAt_stored _ hs) List.not_mem_nil List.not_mem_nil
        (.refl _) (hpushed.withSp s.sp)

/-! ## POP (R412) -/

/-- Popping distinct pairs loads them in turn from SP up. -/
theorem popPairs_of_room (p : Psw) (l : List PairNo) (hl : l.Nodup) {s : State} (hs : s.mem.wf = true)
    (hroom : Room p s (above s.sp (2 * l.length))) :
    ∃ t, popPairs p l s = .ok t ∧ t.sp = s.sp + BitVec.ofNat 16 (2 * l.length) ∧
      OnlyCells (l.flatMap (pairCells p)) s (t.withSp s.sp) ∧
      ∀ j k, l[j]? = some k → readPair p k t = s.wordAt (s.sp + BitVec.ofNat 16 (2 * j)) := by
  induction l generalizing s with
  | nil => exact ⟨s, rfl, by simp, .refl s, fun _ _ h => absurd h (by simp)⟩
  | cons k l ih =>
    obtain ⟨hk, hl⟩ := List.nodup_cons.1 hl
    simp only [List.length_cons] at hroom
    have hpair := writePair_only p k (s.wordAt s.sp) s
    have hrest := hroom.rest.of_only hpair fun _ => pairCells_lt
    obtain ⟨t, ht, hsp, hcells, hpairs⟩ := ih hl (s := (writePair p k (s.wordAt s.sp) s).withSp (s.sp + 2#16))
      (writePair_wf _ _ _ _ hs) hrest
    refine ⟨t, popPairs_cons_ok.2 ⟨_, hroom.readWord_eq, ht⟩, ?_, hpair.trans (hcells.withSp s.sp), fun j i hi => ?_⟩
    · rw [hsp, List.length_cons, Nat.mul_add_one, Nat.add_comm]
      exact add_add_ofNat s.sp 2 _
    · cases j with
      | zero =>
        obtain rfl : k = i := Option.some.inj hi
        rw [BitVec.add_zero, ← (readPair_writePair p k k (s.wordAt s.sp) s hs).trans (if_pos rfl)]
        exact hcells.bytes.readPair_eq (not_mem_flatMap_pairCells hk)
      | succ j =>
        have hj : j + 1 < l.length + 1 := (List.getElem?_eq_some_iff.1 hi).1
        rw [hpairs j i hi, ← hroom.wordAt_above hpair.bytes (fun _ => mem_pairCells) hj, Nat.mul_succ, Nat.add_comm,
          ← add_add_ofNat]
        rfl

/-- Settles O42: by induction on the selected pairs, which PUSH takes from RP7 down and POP from RP0 up. -/
theorem pushAndPopTransferTheSelectedPairs : Obligations.PushAndPopTransferTheSelectedPairs := by
  intro post s hs order n
  refine ⟨fun hstack => ?push, fun hstack => ?pop⟩
  case push =>
    obtain ⟨t, ht, hsp, -, hpushed⟩ := pushPairs_of_room s.psw order hs (pushOrder_length_le post) (forall_below hstack)
    have honly := hpushed.only
    rw [List.nil_append, List.length_map] at honly
    exact ⟨t, finish_advance_eq_next ht honly.pc 2, hsp, honly, fun j k hk => hpushed.words j _ (by simp [hk])⟩
  case pop =>
    have hlen : (popOrder post).length = n := popOrder_length post
    have hroom : Room s.psw s (above s.sp (2 * (popOrder post).length)) := hlen ▸ forall_above hstack
    obtain ⟨t, ht, hsp, hcells, hpairs⟩ := popPairs_of_room s.psw (popOrder post) (popOrder_nodup post) hs hroom
    exact ⟨t, finish_advance_eq_next ht hcells.pc 2, hlen ▸ hsp, hcells.mono fun c => mem_flatMap_popOrder.1,
      popOrder_eq_reverse post ▸ hpairs⟩

/-! ## POP after PUSH (R415) -/

/-- The place of an item in the two orders. -/
theorem getElem?_pushOrder_of_popOrder {post : Byte} {k : PairNo} {j : Nat} (h : (popOrder post)[j]? = some k) :
    j < (pushOrder post).length ∧ (pushOrder post)[(pushOrder post).length - 1 - j]? = some k := by
  have hj : j < (pushOrder post).length := popOrder_length post ▸ (List.getElem?_eq_some_iff.1 h).1
  rw [popOrder_eq_reverse, List.getElem?_reverse hj] at h
  exact ⟨hj, h⟩

/-- Settles O43: POP loads each selected pair from where PUSH stored it, and neither changes another pair. -/
theorem popUndoesPush : Obligations.PopUndoesPush := by
  intro post s t u hs hstack hpush hpop
  have hlen := pushOrder_length_le post
  have hroom : Room s.psw s (below s.sp (2 * (pushOrder post).length)) := forall_below fun j h h' => hstack j h (by omega)
  obtain ⟨v, hv, hsp, hwf, hpushed⟩ := pushPairs_of_room s.psw _ hs hlen hroom
  obtain rfl : t = v.advance 2 := of_finish_advance_eq_next hv hpush
  have honly := hpushed.only
  rw [List.nil_append, List.length_map] at honly
  have hlow : ∀ c ∈ below s.sp (2 * (pushOrder post).length), c < 0xFF00 := fun c hc => plain_lt (hroom c hc).1
  have hpsw : v.psw = s.psw := honly.psw_eq hlow
  have hroom' : Room s.psw v (above v.sp (2 * (popOrder post).length)) := by
    rw [hsp, popOrder_length]
    exact (hroom.of_only honly hlow).mono fun _ => mem_below_of_mem_above
  obtain ⟨w, hw, hsp', hcells, hpairs⟩ := popPairs_of_room s.psw _ (popOrder_nodup post) (s := v.advance 2) hwf hroom'
  obtain rfl : u = w.advance 2 := of_finish_advance_eq_next (hpsw ▸ hw) hpop
  refine ⟨?_, ?_, fun k => ?_⟩
  · exact hsp'.trans (by rw [State.advance_sp, hsp, popOrder_length, BitVec.sub_add_cancel])
  · exact (hcells.psw_eq fun _ => flatMap_pairCells_lt).trans hpsw
  · by_cases hk : k ∈ popOrder post
    · obtain ⟨j, hj⟩ := List.mem_iff_getElem?.1 hk
      obtain ⟨hjlen, hj'⟩ := getElem?_pushOrder_of_popOrder hj
      have hword := hpushed.words _ (readPair s.psw k s) (by rw [List.getElem?_map, hj']; rfl)
      refine (hpairs j k hj).trans (Eq.trans ?_ hword)
      rw [State.advance_sp, hsp, sub_add_ofNat _ (by omega)]
      exact congrArg (fun m => v.wordAt (s.sp - BitVec.ofNat 16 m)) (by omega)
    · exact (hcells.bytes.readPair_eq (not_mem_flatMap_pairCells hk)).trans (hroom.readPair_eq honly.bytes k)

/-! ## PUSHU (R411) -/

/-- An item of PUSHU: the PSW stands in the place of RP5. -/
def userItem (p : Psw) (s : State) (k : PairNo) : Word := if k = 5#3 then s.psw.word else readPair p k s

/-- Pushing items stores them in turn below UP. -/
theorem pushUserItems_of_room (p : Psw) (l : List PairNo) {s : State} (hs : s.mem.wf = true) (hlen : l.length ≤ 8)
    (hroom : Room p s (below (readPair p 5#3 s) (2 * l.length))) :
    ∃ t, pushUserItems p l s = .ok t ∧ readPair p 5#3 t = readPair p 5#3 s - BitVec.ofNat 16 (2 * l.length) ∧
      PushedWords (pairCells p 5#3) (readPair p 5#3 s) (l.map (userItem p s)) s t := by
  induction l generalizing s with
  | nil => exact ⟨s, rfl, by simp, .nil _ _ _⟩
  | cons k l ih =>
    simp only [List.length_cons] at hlen hroom
    generalize hup : readPair p 5#3 s = up at hroom
    have hstore := hroom.pushAt_eq (userItem p s k)
    have hwf := pushAt_wf hstore hs
    have hpair := writePair_only p 5#3 (up - 2#16) (s.stored up (userItem p s k))
    have hup' := (readPair_writePair p 5#3 5#3 (up - 2#16) _ hwf).trans (if_pos rfl)
    have hrest := (hroom.stored (userItem p s k)).of_only hpair fun _ => pairCells_lt
    obtain ⟨t, ht, hptr, hpushed⟩ := ih (writePair_wf p 5#3 (up - 2#16) _ hwf) (by omega) (hup'.symm ▸ hrest)
    have hitems : l.map (userItem p (writePair p 5#3 (up - 2#16) (s.stored up (userItem p s k)))) = l.map (userItem p s) := by
      refine List.map_congr_left fun j _ => ite_congr rfl (fun _ => rfl) fun hj => ?_
      rw [readPair_writePair _ _ _ _ _ hwf, if_neg (Ne.symm hj), hroom.readPair_stored]
    rw [hup', hitems] at hpushed
    refine ⟨t, pushUserItems_cons_ok.2 ⟨_, hup ▸ hstore, hup ▸ ht⟩, ?_, ?_⟩
    · rw [hptr, hup', List.length_cons, Nat.mul_add_one, Nat.add_comm]
      exact sub_sub_ofNat up 2 _
    · refine .cons (by rw [List.length_map]; omega) (hroom.wordAt_stored _ hs) (hroom.word.not_mem_pairCells (by simp) _)
        (hroom.word.not_mem_pairCells ?_ _) hpair hpushed
      rw [sub_two_add_one]
      simp

/-! ## POPU (R414) -/

/-- The state once POPU has loaded an item, its pointer not yet moved: the PSW stands in the place of RP5 (`popUserItems_cons_ok`). -/
def loadUserItem (p : Psw) (k : PairNo) (w : Word) (s : State) : State :=
  if k = 5#3 then s.withPsw (s.psw.restore (Word.lo w) (Word.hi w)) else writePair p k w s

theorem loadUserItem_psw (p : Psw) (w : Word) (s : State) :
    loadUserItem p 5#3 w s = s.withPsw (s.psw.restore (Word.lo w) (Word.hi w)) := if_pos rfl

theorem loadUserItem_pair {k : PairNo} (hk : k ≠ 5#3) (p : Psw) (w : Word) (s : State) :
    loadUserItem p k w s = writePair p k w s := if_neg hk

theorem loadUserItem_wf (p : Psw) (k : PairNo) (w : Word) {s : State} (hs : s.mem.wf = true) :
    (loadUserItem p k w s).mem.wf = true := by
  by_cases hk : k = 5#3
  · subst hk
    rwa [loadUserItem_psw]
  · rw [loadUserItem_pair hk]
    exact writePair_wf p k w s hs

/-- An item changes its own pair or the PSW only. -/
theorem loadUserItem_only (p : Psw) (k : PairNo) (w : Word) (s : State) :
    OnlyCells (pairCells p k) s ((loadUserItem p k w s).withPsw s.psw) := by
  by_cases hk : k = 5#3
  · subst hk
    rw [loadUserItem_psw]
    exact (OnlyCells.refl s).mono fun _ h => absurd h List.not_mem_nil
  · rw [loadUserItem_pair hk]
    exact writePair_only p k w s

/-- POPU of distinct items left each selected pair and the PSW what stood on the stack of `s`, from an address up. -/
structure PoppedUserItems (p : Psw) (a : Addr) (l : List PairNo) (s t : State) : Prop where
  only : OnlyCells (pairCells p 5#3 ++ l.flatMap (pairCells p)) s (t.withPsw s.psw)
  keepsPsw : 5#3 ∉ l → t.psw = s.psw
  pairs : ∀ (j : Nat) (k : PairNo), l[j]? = some k → k ≠ 5#3 → readPair p k t = s.wordAt (a + BitVec.ofNat 16 (2 * j))
  psw : ∀ j : Nat, l[j]? = some 5#3 → t.psw = s.psw.restore (Word.lo (s.wordAt (a + BitVec.ofNat 16 (2 * j))))
    (Word.hi (s.wordAt (a + BitVec.ofNat 16 (2 * j))))

/-- Popping distinct items loads them in turn from UP up. -/
theorem popUserItems_of_room (p : Psw) (l : List PairNo) (hl : l.Nodup) {s : State} (hs : s.mem.wf = true)
    (hroom : Room p s (above (readPair p 5#3 s) (2 * l.length))) :
    ∃ t, popUserItems p l s = .ok t ∧ readPair p 5#3 t = readPair p 5#3 s + BitVec.ofNat 16 (2 * l.length) ∧
      PoppedUserItems p (readPair p 5#3 s) l s t := by
  induction l generalizing s with
  | nil =>
    exact ⟨s, rfl, by simp, (OnlyCells.refl s).mono fun _ h => absurd h List.not_mem_nil, fun _ => rfl, fun _ _ h => absurd h (by simp),
      fun _ h => absurd h (by simp)⟩
  | cons k l ih =>
    obtain ⟨hk, hl⟩ := List.nodup_cons.1 hl
    simp only [List.length_cons] at hroom
    generalize hup : readPair p 5#3 s = up at hroom
    have hload := loadUserItem_wf p k (s.wordAt up) hs
    generalize hv : writePair p 5#3 (up + 2#16) (loadUserItem p k (s.wordAt up) s) = v
    have hwf : v.mem.wf = true := hv ▸ writePair_wf p 5#3 (up + 2#16) _ hload
    have hptr : readPair p 5#3 v = up + 2#16 := by rw [← hv, readPair_writePair _ _ _ _ _ hload, if_pos rfl]
    have hpsw (h : k ≠ 5#3) : v.psw = s.psw := by rw [← hv, writePair_psw, loadUserItem_pair h, writePair_psw]
    have hcells : OnlyCells (pairCells p k ++ pairCells p 5#3) s (v.withPsw s.psw) :=
      hv ▸ (loadUserItem_only p k _ s).trans ((writePair_only p 5#3 (up + 2#16) _).withPsw s.psw)
    have hregs : ∀ c ∈ pairCells p k ++ pairCells p 5#3, ∃ r, c = regAddr p.rbs r :=
      fun _ hc => (List.mem_append.1 hc).elim mem_pairCells mem_pairCells
    have hword {j : Nat} (hj : j + 1 < l.length + 1) :
        v.wordAt (up + 2#16 + BitVec.ofNat 16 (2 * j)) = s.wordAt (up + BitVec.ofNat 16 (2 * (j + 1))) := by
      rw [← hroom.wordAt_above hcells.bytes hregs hj, Nat.mul_succ, Nat.add_comm, ← add_add_ofNat]
      rfl
    have hrest := hroom.rest.of_only hcells fun _ hc => (List.mem_append.1 hc).elim pairCells_lt pairCells_lt
    rw [← hptr] at hrest
    obtain ⟨t, ht, hptr', hpopped⟩ := ih hl hwf hrest
    rw [hptr] at hpopped hptr'
    refine ⟨t, popUserItems_cons_ok.2 ⟨_, hup ▸ hroom.readWord_eq, ?_⟩, ?_, ?only, fun h => ?keepsPsw, fun j i hj hi => ?pairs,
      fun j hj => ?psw⟩
    · rwa [show pairUp = 5#3 from rfl, hup, ← loadUserItem, hv]
    · rw [hptr', List.length_cons, Nat.mul_add_one, Nat.add_comm]
      exact add_add_ofNat up 2 _
    case only =>
      refine (hcells.trans (hpopped.only.withPsw s.psw)).mono fun c hc => ?_
      simp only [List.flatMap_cons, List.mem_append] at hc ⊢
      tauto
    case keepsPsw =>
      obtain ⟨hne, hl5⟩ := not_or.1 (List.mem_cons.not.1 h)
      exact (hpopped.keepsPsw hl5).trans (hpsw (Ne.symm hne))
    case pairs =>
      cases j with
      | zero =>
        obtain rfl : k = i := Option.some.inj hj
        have hoff : ∀ c ∈ pairCells p k, c ∉ pairCells p 5#3 ++ l.flatMap (pairCells p) := fun c hc =>
          List.mem_append.not.2 (not_or.2 ⟨pairCells_disjoint hi c hc, not_mem_flatMap_pairCells hk c hc⟩)
        refine (hpopped.only.bytes.readPair_eq hoff).trans ?_
        rw [← hv, readPair_writePair _ _ _ _ _ hload, if_neg (Ne.symm hi),
          loadUserItem_pair hi, readPair_writePair _ _ _ _ _ hs, if_pos rfl, BitVec.add_zero]
      | succ j => exact (hpopped.pairs j i hj hi).trans (hword (List.getElem?_eq_some_iff.1 hj).1)
    case psw =>
      cases j with
      | zero =>
        obtain rfl : k = 5#3 := Option.some.inj hj
        rw [hpopped.keepsPsw hk, ← hv, writePair_psw, loadUserItem_psw, BitVec.add_zero]
        rfl
      | succ j =>
        have hne : k ≠ 5#3 := by
          rintro rfl
          exact hk (List.mem_of_getElem? hj)
        rw [hpopped.psw j hj, hpsw hne, hword (List.getElem?_eq_some_iff.1 hj).1]

/-- Settles O44: by induction on the selected items, each of which moves UP. -/
theorem userPushAndPopTransferTheSelectedItems : Obligations.UserPushAndPopTransferTheSelectedItems := by
  intro post s hs order n up
  refine ⟨fun hstack => ?push, fun hstack => ?pop⟩
  case push =>
    obtain ⟨t, ht, hptr, hpushed⟩ := pushUserItems_of_room s.psw order hs (pushOrder_length_le post) (forall_below hstack)
    have honly := hpushed.only
    rw [List.length_map] at honly
    exact ⟨t, finish_advance_eq_next ht honly.pc 2, hptr, honly, fun j k hk => hpushed.words j (userItem s.psw s k) (by simp [hk])⟩
  case pop =>
    have hlen : (popOrder post).length = n := popOrder_length post
    have hroom : Room s.psw s (above up (2 * (popOrder post).length)) := hlen ▸ forall_above hstack
    obtain ⟨t, ht, hptr, hpopped⟩ := popUserItems_of_room s.psw (popOrder post) (popOrder_nodup post) hs hroom
    refine ⟨t, finish_advance_eq_next ht hpopped.only.pc 2, hlen ▸ hptr, hpopped.only.mono fun c hc => ?_,
      fun h => hpopped.keepsPsw (mem_popOrder.not.2 h), fun j k hk => ?_⟩
    · exact List.mem_append.2 ((List.mem_append.1 hc).imp_right mem_flatMap_popOrder.1)
    · rw [show order.reverse = popOrder post from (popOrder_eq_reverse post).symm] at hk
      exact ⟨hpopped.pairs j k hk, fun h => hpopped.psw j (h ▸ hk)⟩

end Sys2Proof.Machine
end

section
/-!
A return undoes its entry (O41, O54): what RETI finds below the SP of a vectored entry, and RETCS in the bank of a context switch.
-/

namespace Sys2Proof.Machine

/-! ## Vectored entry and RETI (R406, R408, R620, R623) -/

/-- Below an address the stack holds a PSW over a return address, and SP stands there: what RETI returns to. -/
structure SavedBelow (a ret : Addr) (p : Psw) (t : State) : Prop where
  sp : t.sp = a - 4#16
  ret : t.wordAt (a - 4#16) = ret
  psw : t.wordAt (a - 2#16) = p.word
  plain : ∀ c ∈ below a 4, plain t c = true

theorem SavedBelow.congr {a ret : Addr} {p : Psw} {t u : State} (h : SavedBelow a ret p t) (hmem : u.mem = t.mem)
    (hsp : u.sp = t.sp) (hboard : u.board = t.board) : SavedBelow a ret p u := by
  have hbyte (c : Nat) : u.byte c = t.byte c := by rw [State.byte, State.byte, hmem]
  refine ⟨hsp.trans h.sp, ?_, ?_, fun c hc => ?_⟩
  · rw [State.wordAt, hbyte, hbyte]
    exact h.ret
  · rw [State.wordAt, hbyte, hbyte]
    exact h.psw
  · rw [Machine.plain, State.place_congr hboard (hbyte mmAddr)]
    exact h.plain c hc

/-- RETI gives back what is saved. -/
theorem returnVector_of_saved {a ret : Addr} {p : Psw} {t : State} (h : SavedBelow a ret p t) :
    returnVector t = .ok { t with pc := ret, psw := p, sp := a, eos := false, service := t.service.tail } := by
  have hplain {b : Addr} (j : Nat) (hj : j < 4) (hb : b = a - BitVec.ofNat 16 (j + 1)) : plain t b.toNat = true :=
    h.plain _ (mem_below.2 ⟨j, hj, by rw [hb]⟩)
  have hword := readWord_of_plain 0 (hplain (b := t.sp) 3 (by decide) h.sp)
    (hplain 2 (by decide) (by rw [h.sp]; exact sub_add_ofNat a (m := 4) (n := 1) (by decide)))
  have hlow : t.sp + 2#16 = a - 2#16 := by rw [h.sp]; exact sub_add_ofNat a (m := 4) (n := 2) (by decide)
  have hhigh : t.sp + 3#16 = a - 1#16 := by rw [h.sp]; exact sub_add_ofNat a (m := 4) (n := 3) (by decide)
  have hpswLow : t.byte (a - 2#16).toNat = p.low :=
    (lo_ofBytes _ _).symm.trans ((congrArg Word.lo h.psw).trans (lo_ofBytes _ _))
  have hpswHigh : t.byte (a - 2#16 + 1#16).toNat = p.high :=
    (hi_ofBytes _ _).symm.trans ((congrArg Word.hi h.psw).trans (hi_ofBytes _ _))
  rw [sub_two_add_one] at hpswHigh
  refine returnVector_ok.2 ⟨ret, p.low, p.high, ?_, ?_, ?_, ?_⟩
  · rw [hword, h.sp, h.ret]
  · rw [hlow, readByte_of_readsAsHeld 0 (readsAsHeld_of_plain (hplain 1 (by decide) rfl)), hpswLow]
  · rw [hhigh, readByte_of_readsAsHeld 0 (readsAsHeld_of_plain (hplain 0 (by decide) rfl)), hpswHigh]
  · rw [Psw.restore_low_high, h.sp, endService, show a - 4#16 + 4#16 = a from BitVec.sub_add_cancel a 4#16]

/-- A vectored entry over plain memory saves the PSW and the return address, and changes nothing else of memory. -/
structure VectorEntered (ret : Addr) (mark : Service) (s t : State) : Prop where
  saved : SavedBelow s.sp ret s.psw t
  bytes : sameBytesBut (below s.sp 4) s t
  rest : ∃ m q target, t = { s with
    mem := m, prefetch := q, pc := target, sp := s.sp - 4#16, psw := { s.psw with ie := false }, service := mark :: s.service }

theorem enterVector_of_plain {vector ret : Addr} {mark : Service} {s t : State} (hs : s.mem.wf = true)
    (hstack : ∀ c ∈ below s.sp 4, plain s c = true) (h : enterVector vector ret mark s = .ok t) : VectorEntered ret mark s t := by
  obtain ⟨u, v, target, hu, hv, -, rfl⟩ := enterVector_ok.1 h
  obtain ⟨rfl, hpushed⟩ := pushAt_twice_of_plain hs hstack hu hv
  have hlow : ∀ c ∈ below s.sp 4, c < 0xFF00 := fun c hc => plain_lt (hstack c hc)
  exact ⟨⟨rfl, hpushed.words 1 ret rfl, hpushed.words 0 _ rfl, fun c hc => (hpushed.only.plain_eq hlow c).trans (hstack c hc)⟩,
    hpushed.only.bytes, _, _, target, rfl⟩

/-! ## Context switch and RETCS (R490, R491, R622, R624) -/

theorem readPair_congr {s t : State} (h : t.mem = s.mem) (p : Psw) (k : PairNo) : readPair p k t = readPair p k s := by
  rw [readPair, readPair, readReg, readReg, readReg, readReg, State.byte, State.byte, State.byte, State.byte, h]

theorem readPair_of_rbs {p q : Psw} (h : p.rbs = q.rbs) (k : PairNo) (s : State) : readPair p k s = readPair q k s := by
  rw [readPair, readPair, readReg, readReg, readReg, readReg, h]

/-- RETCS in the bank that a context switch entered gives back pc and PSW, and leaves its operand in R5:R4 there. -/
theorem returnBank_of_entered {bank : BitVec 3} {ret : Addr} {mark : Service} {s t : State} (hs : s.mem.wf = true)
    (hmem : t.mem = (enterBank bank ret mark s).mem) (hpsw : t.psw = { s.psw with rbs := bank, rss := false, ie := false })
    (w : Addr) :
    let p := { s.psw with rbs := bank }
    (∃ m q, returnBank w t = { t with
      mem := m, prefetch := q, pc := ret, psw := s.psw, eos := false, service := t.service.tail }) ∧
    readPair p 2#3 (returnBank w t) = w ∧ sameBytesBut (pairCells p 2#3 ++ pairCells p 3#3) s (returnBank w t) := by
  intro p
  rw [enterBank_mem] at hmem
  have hwf := writePair_wf t.psw 2#3 ret s hs
  have hwf' := writePair_wf t.psw 3#3 s.psw.word _ hwf
  rw [← hpsw] at hmem
  have hret : readPair t.psw 2#3 t = ret := by
    rw [readPair_congr hmem, readPair_writePair _ _ _ _ _ hwf, if_neg (by decide), readPair_writePair _ _ _ _ _ hs, if_pos rfl]
  have hsaved : readPair t.psw 3#3 t = s.psw.word := by
    rw [readPair_congr hmem, readPair_writePair _ _ _ _ _ hwf, if_pos rfl]
  have hbank : t.psw.rbs = p.rbs := by rw [hpsw]
  have hcells (k : PairNo) : pairCells p k = pairCells t.psw k := by rw [pairCells, pairCells, hbank]
  refine ⟨⟨(writePair t.psw 2#3 w t).mem, (writePair t.psw 2#3 w t).prefetch, ?_⟩, ?_, fun a ha => ?_⟩
  · simp only [returnBank, hret, hsaved, Psw.word, lo_ofBytes, hi_ofBytes, Psw.restore_low_high]
    rfl
  · rw [← readPair_of_rbs hbank, readPair_congr (returnBank_mem w t), readPair_writePair _ _ _ _ _ (hmem ▸ hwf'), if_pos rfl]
  · rw [hcells, hcells, List.mem_append, not_or] at ha
    obtain ⟨htwo, hthree⟩ := ha
    calc (returnBank w t).byte a = (writePair t.psw 2#3 w t).byte a := rfl
      _ = t.byte a := (writePair_only _ _ _ _).bytes a htwo
      _ = (writePair t.psw 3#3 s.psw.word (writePair t.psw 2#3 ret s)).byte a := congrArg (Memory.get · a) hmem
      _ = (writePair t.psw 2#3 ret s).byte a := (writePair_only _ _ _ _).bytes a hthree
      _ = s.byte a := (writePair_only _ _ _ _).bytes a htwo

/-- Settles O54: RETI finds what the entry of BRK saved below SP, RETCS what that of BRKCS saved in the bank. -/
theorem returnsUndoTheirEntries : Obligations.ReturnsUndoTheirEntries := by
  refine ⟨fun s t u hs hstack hbrk hreti => ?_, fun n w s t u hs hbrkcs hretcs => ?_⟩
  · have hentry : enterVector brkVector (s.pc + 1#16) .software s = .ok t := (finish_eq_next _ _).1 hbrk
    obtain ⟨hsaved, hbytes, m, q, target, rfl⟩ := enterVector_of_plain hs (forall_below hstack) hentry
    obtain rfl := Except.ok.inj ((returnVector_of_saved hsaved).symm.trans ((finish_eq_next _ _).1 hreti))
    refine ⟨?_, hbytes⟩
    rw [← s.pc_add_eq_after]
    rfl
  · intro p
    obtain rfl : enterBank n (s.pc + 2#16) .software s = t := Host.Outcome.next.inj hbrkcs
    obtain rfl : returnBank w _ = u := Host.Outcome.next.inj hretcs
    obtain ⟨⟨m, q, he⟩, hpair, hbytes⟩ := returnBank_of_entered (ret := s.pc + 2#16) hs rfl rfl w
    refine ⟨?_, hpair, hbytes⟩
    rw [he, ← s.pc_add_eq_after]
    rfl

/-! ## Interrupts (R620, R622 to R624) -/

/-- In RUN a step at a boundary that takes an entry serves it. -/
theorem step_next_of_entry {s t : State} {e : Event} (hrun : s.run = .running) (he : boundary s = some e)
    (hentry : e.transfers s = false) (h : step s = .next t) : ∃ u, serve e s = .ok u ∧ t = afterStep true 0 s u := by
  have hdue := (due_running hrun).trans he
  rcases step_next h with ⟨e', u, hd, hu, ht⟩ | ⟨hd, -⟩ | ⟨hd, -⟩
  · obtain rfl : e = e' := Option.some.inj (hdue.symm.trans hd)
    refine ⟨u, hu, ?_⟩
    rw [ht, hentry, hrun]
    rfl
  · exact absurd (hdue.symm.trans hd) nofun
  · exact absurd (hdue.symm.trans hd) nofun

theorem transfers_of_vector {s : State} {e : Event} (h : ∀ q, e = .maskable q → serviceMode s q = .vector) :
    e.transfers s = false := by
  cases e with
  | nmi => rfl
  | wdt => rfl
  | maskable q => rw [Event.transfers, h q rfl]; rfl

/-- The service of an event with a vector is a vectored entry, but for the request and the record of an acceptance. -/
theorem serve_vector_ok {s t : State} {e : Event} (hvec : ∀ q, e = .maskable q → serviceMode s q = .vector)
    (h : serve e s = .ok t) : ∃ vector mark u, enterVector vector s.pc mark s = .ok u ∧ t.mem = u.mem ∧ t.sp = u.sp ∧
      t.board = u.board ∧ t.service = u.service := by
  cases e with
  | nmi | wdt =>
    obtain ⟨u, hu, ht⟩ := bind_eq_ok.1 h
    obtain rfl := Except.ok.inj ht
    exact ⟨_, _, u, hu, rfl, rfl, rfl, rfl⟩
  | maskable q =>
    rw [serve, hvec q rfl] at h
    obtain ⟨u, hu, ht⟩ := bind_eq_ok.1 h
    obtain rfl := Except.ok.inj ht
    exact ⟨_, _, u, hu, rfl, rfl, rfl, rfl⟩

/-- The service of a request in context-switch mode is the entry of a bank, but for the request and the record of an acceptance. -/
theorem serve_context_ok {s t : State} {q : Source} (hmode : serviceMode s q = .context) (h : serve (.maskable q) s = .ok t) :
    t.mem = (enterBank (s.sources.get q).bank s.pc (.level (level s q)) s).mem ∧
      t.psw = { s.psw with rbs := (s.sources.get q).bank, rss := false, ie := false } ∧ t.sp = s.sp ∧
      t.service = .level (level s q) :: s.service := by
  rw [serve, hmode] at h
  obtain rfl := Except.ok.inj h
  exact ⟨rfl, rfl, rfl, rfl⟩

/-- Settles O41: a return finds what the entry saved, and the entry put its own mark on top of the service list. -/
theorem endOfServiceRemovesOneEntry : Obligations.EndOfServiceRemovesOneEntry := by
  refine ⟨fun s t u e hs hrun he hvec hstack hstep hreti => ?vector, fun s t u q w hs hrun he hmode hstep hretcs => ?context,
    fun s t w hnone => ⟨fun h => ?reti, fun h => ?retcs⟩⟩
  case vector =>
    obtain ⟨x, hserve, rfl⟩ := step_next_of_entry hrun he (transfers_of_vector hvec) hstep
    obtain ⟨vector, mark, v, hentry, hmem, hsp, hboard, hservice⟩ := serve_vector_ok hvec hserve
    obtain ⟨hsaved, hbytes, m, q, target, hv⟩ := enterVector_of_plain hs (forall_below hstack) hentry
    have hsaved' : SavedBelow s.sp s.pc s.psw (afterStep true 0 s x) := hsaved.congr hmem hsp hboard
    obtain rfl := Except.ok.inj ((returnVector_of_saved hsaved').symm.trans ((finish_eq_next _ _).1 hreti))
    refine ⟨rfl, rfl, rfl, ?_, fun a ha => (congrArg (Memory.get · a) hmem).trans (hbytes a ha)⟩
    exact (congrArg List.tail hservice).trans (by rw [hv]; rfl)
  case context =>
    intro p
    obtain ⟨x, hserve, rfl⟩ := step_next_of_entry hrun he (by rw [Event.transfers, hmode]; rfl) hstep
    obtain ⟨hmem, hpsw, hsp, hservice⟩ := serve_context_ok hmode hserve
    obtain rfl : returnBank w _ = u := Host.Outcome.next.inj hretcs
    obtain ⟨⟨m, r, hu⟩, hpair, hbytes⟩ := returnBank_of_entered (t := afterStep true 0 s x) hs hmem hpsw w
    refine ⟨by rw [hu], by rw [hu]; exact hsp, by rw [hu], ?_, hpair, hbytes⟩
    rw [hu]
    exact congrArg List.tail hservice
  case reti =>
    obtain ⟨_, _, _, -, -, -, rfl⟩ := returnVector_ok.1 ((finish_eq_next _ _).1 h)
    exact congrArg List.tail hnone
  case retcs =>
    obtain rfl : returnBank w s = t := Host.Outcome.next.inj h
    exact congrArg List.tail hnone

end Sys2Proof.Machine
end

section
/-!
The instructions that change the PSW alone (O37), and the protected writes of STBC and WDM (O51).
-/

namespace Sys2Proof.Machine

/-! ## SET1 CY, CLR1 CY, NOT1 CY, SWRS, SEL, NOP, EI, DI (R519 to R524, R948, R955, R962) -/

theorem PswOnly.exec_eq {s : State} {i : Instr} {q : Psw} (h : PswOnly s.psw i q) :
    exec i s = .next ((s.withPsw q).advance i.length) := by
  cases h
  all_goals rfl

/-- Settles O37: the PSW is replaced and pc goes on; the encodings are literals but for the bank. -/
theorem controlInstructionsChangeThePswAlone : Obligations.ControlInstructionsChangeThePswAlone := by
  refine ⟨fun i s q h => ?_, rfl, rfl, rfl, rfl, rfl, rfl, rfl, by decide⟩
  rw [h.exec_eq, (OnlyCells.refl s).withPsw_advance_eq]

/-! ## MOV STBC and MOV WDM (R517, R518, R650, R655) -/

/-- The first data byte is the complement of the second when both add up to FFH (log 24). -/
theorem eq_not_iff_toNat_add (check byte : Byte) : check = ~~~byte ↔ check.toNat + byte.toNat = 255 := by
  rw [← BitVec.toNat_inj, BitVec.toNat_not]
  omega

theorem guardedWrite_of_complement {a : Nat} {check v : Byte} (h : check = ~~~v) (s : State) :
    guardedWrite a check v s = s.setByte a v := if_pos h

theorem guardedWrite_of_ne {a : Nat} {check v : Byte} (h : check ≠ ~~~v) (s : State) : guardedWrite a check v s = s :=
  if_neg h

/-- The run state that a byte of STBC asks for, by the number it stands for (log 25). -/
theorem standbyOf_eq (v : Byte) :
    standbyOf v = if v.toNat / 2 % 2 = 1 then .stopped else if v.toNat % 2 = 1 then .halted else .running := by
  simp only [standbyOf, BitVec.getLsbD, Nat.testBit_succ, Nat.testBit_zero, decide_eq_true_iff]

/-- Settles O51: the protected write stores exactly when the complement is there, and only then the run state or the watchdog
follows. -/
theorem protectedWritesNeedTheComplement : Obligations.ProtectedWritesNeedTheComplement := by
  refine fun check byte s => ⟨fun h => ?kept, fun h => ?written⟩
  case kept =>
    have hne : check ≠ ~~~byte := (eq_not_iff_toNat_add check byte).not.2 h
    have hkept (a : Nat) : (guardedWrite a check byte s).advance 4 = s.withPc (s.after 4) := by
      rw [guardedWrite_of_ne hne, (OnlyCells.refl s).advance_eq]
    exact ⟨congrArg Host.Outcome.next ((if_neg hne).trans (hkept stbcAddr)),
      congrArg Host.Outcome.next ((if_neg hne).trans (hkept wdmAddr))⟩
  case written =>
    have hcheck : check = ~~~byte := (eq_not_iff_toNat_add check byte).2 h
    have hstored (a : Nat) : (guardedWrite a check byte s).advance 4 = (s.setByte a byte).withPc (s.after 4) := by
      rw [guardedWrite_of_complement hcheck, (setByte_only s a byte).advance_eq]
    refine ⟨congrArg Host.Outcome.next ((if_pos hcheck).trans ?_), congrArg Host.Outcome.next ((if_pos hcheck).trans ?_)⟩
    · rw [hstored, standbyOf_eq]
      rfl
    · rw [hstored]
      rfl

end Sys2Proof.Machine
end

section
/-!
After a comparison or a subtraction the conditions of the branches are the relations of its operands (O47).
-/

namespace Sys2Proof.Machine

/-- A number between minus the modulus and the modulus, taken mod it. -/
theorem emod_of_bounded {x n : Int} (h : -n ≤ x) (h' : x < n) : x % n = if x < 0 then x + n else x := by
  split
  · rw [← Int.add_emod_right, Int.emod_eq_of_lt (by omega) (by omega)]
  · exact Int.emod_eq_of_lt (by omega) h'

theorem intCast_toNat_lt {w : Nat} (a : BitVec w) : (a.toNat : Int) < 2 ^ w := mod_cast a.isLt

/-- The difference of two words taken mod `2 ^ w`. -/
theorem toNat_sub_emod {w : Nat} (a b : BitVec w) :
    ((a.toNat : Int) - b.toNat) % 2 ^ w = if a.toNat < b.toNat then (a.toNat : Int) - b.toNat + 2 ^ w else a.toNat - b.toNat := by
  have ha := intCast_toNat_lt a
  have hb := intCast_toNat_lt b
  rw [emod_of_bounded (by omega) (by omega)]
  exact if_congr (by omega) rfl rfl

section
variable {w : Nat} (a b : BitVec w) (ac : Bool) (p : Psw)

theorem subFlags_cy : (subFlags a b false ac p).cy = decide (a.toNat < b.toNat) := by
  simp only [subFlags, Bool.toNat_false, decide_eq_decide]
  omega

theorem subFlags_z : (subFlags a b false ac p).z = decide (a = b) := by
  have ha := intCast_toNat_lt a
  have hb := intCast_toNat_lt b
  simp only [subFlags, Bool.toNat_false, Int.natCast_zero, Int.sub_zero, toNat_sub_emod, decide_eq_decide, ← BitVec.toNat_inj]
  split <;> omega

/-- The sign of the difference, corrected where it overflows (R443). -/
theorem subFlags_pv_bne_s (hw : 0 < w) :
    ((subFlags a b false ac p).pv != (subFlags a b false ac p).s) = decide (a.toInt < b.toInt) := by
  have ha := intCast_toNat_lt a
  have hb := intCast_toNat_lt b
  have hcast : ((2 ^ w : Nat) : Int) = 2 ^ w := by norm_cast
  have hhalf : (2 : Int) ^ w = 2 * 2 ^ (w - 1) := by rw [← pow_succ', Nat.sub_add_cancel hw]
  simp only [subFlags, Bool.toNat_false, Int.natCast_zero, Int.sub_zero, toNat_sub_emod, not_fits, BitVec.toInt_eq_toNat_cond,
    ← Bool.decide_or]
  rw [Bool.eq_iff_iff]
  simp only [bne_iff_ne, ne_eq, decide_eq_decide, decide_eq_true_iff]
  omega

end

/-- The conditions that R443 gives a relation of the operands. -/
def RelationsHold {w : Nat} (a b : BitVec w) (q : Psw) : Prop :=
  Condition.lt.holds q = decide (a.toInt < b.toInt) ∧
  Condition.ge.holds q = decide (b.toInt ≤ a.toInt) ∧
  Condition.gt.holds q = decide (b.toInt < a.toInt) ∧
  Condition.le.holds q = decide (a.toInt ≤ b.toInt) ∧
  Condition.c.holds q = decide (a.toNat < b.toNat) ∧
  Condition.nc.holds q = decide (b.toNat ≤ a.toNat) ∧
  Condition.h.holds q = decide (b.toNat < a.toNat) ∧
  Condition.nh.holds q = decide (a.toNat ≤ b.toNat) ∧
  Condition.z.holds q = decide (a = b)

/-- Three facts about the flags decide every condition. -/
theorem RelationsHold.of_flags {w : Nat} {a b : BitVec w} {q : Psw} (hlt : (q.pv != q.s) = decide (a.toInt < b.toInt))
    (hcy : q.cy = decide (a.toNat < b.toNat)) (hz : q.z = decide (a = b)) : RelationsHold a b q := by
  have heqInt : a = b ↔ a.toInt = b.toInt := BitVec.toInt_inj.symm
  have heqNat : a = b ↔ a.toNat = b.toNat := BitVec.toNat_inj.symm
  have hge : (q.pv == q.s) = decide (b.toInt ≤ a.toInt) := by
    rw [show (q.pv == q.s) = !(q.pv != q.s) from (Bool.not_not _).symm, hlt, ← decide_not, decide_eq_decide, not_lt]
  refine ⟨hlt, hge, ?gt, ?le, hcy, ?nc, ?h, ?nh, hz⟩
  case gt =>
    rw [Condition.holds, hge, hz, ← decide_not, ← Bool.decide_and, decide_eq_decide, heqInt]
    omega
  case le =>
    rw [Condition.holds, hlt, hz, ← Bool.decide_or, decide_eq_decide, heqInt]
    omega
  case nc => rw [Condition.holds, hcy, ← decide_not, decide_eq_decide, not_lt]
  case h =>
    rw [Condition.holds, hz, hcy, ← decide_not, ← decide_not, ← Bool.decide_and, decide_eq_decide, heqNat]
    omega
  case nh =>
    rw [Condition.holds, hz, hcy, ← Bool.decide_or, decide_eq_decide, heqNat]
    omega

theorem relationsHold_subFlags {w : Nat} (hw : 0 < w) (a b : BitVec w) (ac : Bool) (p : Psw) :
    RelationsHold a b (subFlags a b false ac p) :=
  .of_flags (subFlags_pv_bne_s a b ac p hw) (subFlags_cy a b ac p) (subFlags_z a b ac p)

/-- Settles O47: both operations leave the flags of the difference over the integers, at either width. -/
theorem compareConditionsAreTheRelations : Obligations.CompareConditionsAreTheRelations := by
  refine ⟨fun op c a b p h => ?byte, fun op n a b p h => ?word⟩
  case byte =>
    intro q
    have hq : q = subFlags a b false (decide (a.toNat % 16 < b.toNat % 16)) p := by
      rcases h with rfl | rfl <;> exact AluOp.flags_eq_aluPsw _ c a b p
    exact hq ▸ relationsHold_subFlags (by decide) a b _ p
  case word =>
    intro q
    have hq : q = subFlags a b false (Config.freeBit n 0) p := by
      rcases h with rfl | rfl <;> exact p.arith_alu16 _ n a b
    exact hq ▸ relationsHold_subFlags (by decide) a b _ p

end Sys2Proof.Machine
end

section
/-!
BRKCS and RETCS (O50), and the context-switch entry of an accepted interrupt (O57).
-/

namespace Sys2Proof.Machine

/-- The PSW that a context-switch entry gives its routine. -/
def Psw.entering (p : Psw) (bank : BitVec 3) : Psw := { p with rbs := bank, rss := false, ie := false }

/-- What a context-switch entry leaves: the return address and the old PSW in R4 to R7 of the new bank, whose R5:R4 gave the pc, and
nothing else but the service (R490, R622). -/
structure BankEntered (bank : BitVec 3) (ret : Addr) (mark : Service) (s t : State) : Prop where
  pc : t.pc = readPair (s.psw.entering bank) 2#3 s
  ret : readPair (s.psw.entering bank) 2#3 t = ret
  saved : readPair (s.psw.entering bank) 3#3 t = s.psw.word
  bytes : sameBytesBut (pairCells (s.psw.entering bank) 2#3 ++ pairCells (s.psw.entering bank) 3#3) s t
  queue : queueGrows (pairCells (s.psw.entering bank) 2#3 ++ pairCells (s.psw.entering bank) 3#3) s t
  rest : t = { s with
    mem := t.mem, pc := t.pc, psw := s.psw.entering bank, service := mark :: s.service, prefetch := t.prefetch }

/-- The entry writes two pairs of the new bank, which lie apart. -/
theorem enterBank_entered (bank : BitVec 3) (ret : Addr) (mark : Service) {s : State} (hs : s.mem.wf = true) :
    BankEntered bank ret mark s (enterBank bank ret mark s) := by
  have hwf := writePair_wf (s.psw.entering bank) 2#3 ret s hs
  have hmem : (enterBank bank ret mark s).mem =
      (writePair (s.psw.entering bank) 3#3 s.psw.word (writePair (s.psw.entering bank) 2#3 ret s)).mem :=
    enterBank_mem bank ret mark s
  have hcells := (writePair_only (s.psw.entering bank) 2#3 ret s).trans (writePair_only (s.psw.entering bank) 3#3 s.psw.word _)
  refine ⟨rfl, ?ret, ?saved, hcells.bytes, hcells.queue, rfl⟩
  case ret =>
    rw [readPair_congr hmem, readPair_writePair _ _ _ _ _ hwf, if_neg (by decide), readPair_writePair _ _ _ _ _ hs, if_pos rfl]
  case saved => rw [readPair_congr hmem, readPair_writePair _ _ _ _ _ hwf, if_pos rfl]

/-- The bytes of the pair R7:R6. -/
theorem readPair_three (p : Psw) (s : State) : readPair p 3#3 s = Word.ofBytes (readReg p 6#4 s) (readReg p 7#4 s) := rfl

/-- The PSW after RETCS has the bytes that R7 and R6 hold. -/
theorem returnBank_psw_bytes (rearm : Addr) (s : State) :
    (returnBank rearm s).psw.low = readReg s.psw 6#4 s ∧ (returnBank rearm s).psw.high = readReg s.psw 7#4 s &&& 0x71#8 := by
  have hpsw : (returnBank rearm s).psw = s.psw.restore (readReg s.psw 6#4 s) (readReg s.psw 7#4 s) := by
    simp only [returnBank, readPair_three, lo_ofBytes, hi_ofBytes]
  rw [hpsw]
  exact s.psw.restore_bytes _ _

/-- Settles O50: BRKCS is the entry of its bank; RETCS writes one pair of the bank it leaves. -/
theorem brkcsAndRetcsSwitchTheContext : Obligations.BrkcsAndRetcsSwitchTheContext := by
  refine ⟨fun n s hs => ?brkcs, fun w s hs => ?retcs⟩
  case brkcs =>
    have h := enterBank_entered n (s.after 2) .software hs
    exact ⟨_, congrArg (fun a => Host.Outcome.next (enterBank n a .software s)) (s.pc_add_eq_after 2), h.pc, rfl, h.ret, h.saved,
      h.bytes, h.queue, h.rest⟩
  case retcs =>
    have hcells := writePair_only s.psw 2#3 w s
    obtain ⟨hlow, hhigh⟩ := returnBank_psw_bytes w s
    refine ⟨returnBank w s, rfl, rfl, hlow, hhigh, ?_, hcells.bytes, hcells.queue, rfl⟩
    rw [readPair_congr (returnBank_mem w s), readPair_writePair _ _ _ _ _ hs, if_pos rfl]

/-- Settles O57: the event is served by the entry of the bank of its source, after the request is cleared. -/
theorem contextInterruptEntry : Obligations.ContextInterruptEntry := by
  intro q s hs hrun hb hmode c p
  have hserve : serve (.maskable q) s =
      .ok { enterBank c.bank s.pc (.level (level s q)) (clearRequest q s) with accepted := true } := by
    rw [serve, hmode]
  have h := enterBank_entered c.bank s.pc (.level (level s q)) (s := clearRequest q s) hs
  exact ⟨_, step_of_entry hrun hb (by rw [Event.transfers, hmode]; rfl) hserve, h.pc, h.ret, h.saved, h.bytes, rfl⟩

end Sys2Proof.Machine
end

section
/-!
The event of an instruction boundary (O55), and the steps of HALT and STOP that serve nothing (O59).
-/

namespace Sys2Proof.Machine

/-! ## The maskable source that is taken (R610, R614) -/

/-- A source may be taken at the boundary, but for the order among the sources (R610). -/
def MayBeTaken (s : State) (q : Source) : Prop :=
  requested s q = true ∧ masked s q = false ∧ (s.psw.ie = true ∨ serviceMode s q = .macroservice) ∧
    ∀ k, .level k ∈ s.service → (level s q).toNat < k.toNat

/-- A source has the lower level, or the same level and no higher default priority number (R610(f)). -/
def Precedes (s : State) (q r : Source) : Prop :=
  (level s q).toNat < (level s r).toNat ∨ ((level s q).toNat = (level s r).toNat ∧ q.priority ≤ r.priority)

theorem aboveService_iff {s : State} {k : BitVec 3} :
    aboveService s k = true ↔ ∀ j, .level j ∈ s.service → k.toNat < j.toNat := by
  rw [aboveService, List.all_eq_true]
  constructor
  · exact fun h j hj => decide_eq_true_iff.1 (h _ hj)
  · rintro h (j | _ | _ | _) he
    · exact decide_eq_true (h j he)
    all_goals rfl

theorem eligible_iff {s : State} {q : Source} : eligible s q = true ↔ MayBeTaken s q := by
  simp only [eligible, MayBeTaken, Bool.and_eq_true, Bool.or_eq_true, Bool.not_eq_true', beq_iff_eq, aboveService_iff, and_assoc]

theorem Source.priority_inj {q r : Source} (h : q.priority = r.priority) : q = r := by
  revert h
  cases q <;> cases r <;> decide

/-- The list of the sources is in the order of their default priority. -/
theorem Source.all_pairwise : Source.all.Pairwise fun q r => q.priority ≤ r.priority := by decide

theorem Precedes.antisymm {s : State} {q r : Source} (h : Precedes s q r) (h' : Precedes s r q) : q = r :=
  Source.priority_inj (by unfold Precedes at h h'; omega)

theorem Precedes.trans {s : State} {q r u : Source} (h : Precedes s q r) (h' : Precedes s r u) : Precedes s q u := by
  unfold Precedes at *
  omega

theorem selectSource_eq_none {s : State} {l : List Source} :
    selectSource s l = none ↔ ∀ q ∈ l, ¬ MayBeTaken s q := by
  induction l with
  | nil => simp [selectSource]
  | cons q l ih =>
    rw [List.forall_mem_cons, ← ih, ← eligible_iff, selectSource]
    cases selectSource s l with
    | none => simp
    | some r => simp only [reduceCtorEq, and_false, iff_false]; split <;> exact nofun

/-- In a list by default priority the source selected is one that may be taken, before every other. -/
theorem selectSource_some {s : State} {l : List Source} (hl : l.Pairwise fun q r => q.priority ≤ r.priority) {q : Source}
    (h : selectSource s l = some q) : q ∈ l ∧ MayBeTaken s q ∧ ∀ r ∈ l, MayBeTaken s r → Precedes s q r := by
  induction l generalizing q with
  | nil => cases h
  | cons p l ih =>
    obtain ⟨hp, hl⟩ := List.pairwise_cons.1 hl
    have hself : Precedes s q q := .inr ⟨rfl, le_rfl⟩
    rw [selectSource] at h
    cases hr : selectSource s l with
    | none =>
      have hnone := selectSource_eq_none.1 hr
      simp only [hr, Option.ite_none_right_eq_some, Option.some.injEq] at h
      obtain ⟨he, rfl⟩ := h
      exact ⟨List.mem_cons_self, eligible_iff.1 he, List.forall_mem_cons.2 ⟨fun _ => hself, fun r hm ht => absurd ht (hnone r hm)⟩⟩
    | some r =>
      obtain ⟨hmem, htaken, hfirst⟩ := ih hl hr
      have hselects : (eligible s p && decide ((level s p).toNat ≤ (level s r).toNat)) = true ↔
          MayBeTaken s p ∧ (level s p).toNat ≤ (level s r).toNat := by
        rw [Bool.and_eq_true, eligible_iff, decide_eq_true_iff]
      simp only [hr] at h
      split at h
      · next hpr =>
        obtain rfl := Option.some.inj h
        obtain ⟨hpt, hlevel⟩ := hselects.1 hpr
        have hbefore : Precedes s p r := hlevel.lt_or_eq.imp_right fun e => ⟨e, hp r hmem⟩
        exact ⟨List.mem_cons_self, hpt, List.forall_mem_cons.2 ⟨fun _ => hself, fun u hu ht => hbefore.trans (hfirst u hu ht)⟩⟩
      · next hpr =>
        obtain rfl := Option.some.inj h
        refine ⟨List.mem_cons_of_mem _ hmem, htaken, List.forall_mem_cons.2 ⟨fun hpt => .inl ?_, hfirst⟩⟩
        exact not_le.1 fun hle => hpr (hselects.2 ⟨hpt, hle⟩)

/-- Among all sources the one selected is the first that may be taken. -/
theorem selectSource_all {s : State} {q : Source} :
    selectSource s Source.all = some q ↔ MayBeTaken s q ∧ ∀ r, MayBeTaken s r → Precedes s q r := by
  refine ⟨fun h => ?_, fun ⟨htaken, hfirst⟩ => ?_⟩
  · obtain ⟨-, htaken, hfirst⟩ := selectSource_some Source.all_pairwise h
    exact ⟨htaken, fun r => hfirst r r.mem_all⟩
  · cases hr : selectSource s Source.all with
    | none => exact absurd htaken (selectSource_eq_none.1 hr q q.mem_all)
    | some r =>
      obtain ⟨-, hrtaken, hrfirst⟩ := selectSource_some Source.all_pairwise hr
      rw [(hrfirst q q.mem_all htaken).antisymm (hfirst r hrtaken)]

/-! ## The boundary rule (R610, R611, R615) -/

theorem boundary_eq (s : State) : boundary s =
    if s.nmiPending = true ∧ .nmi ∉ s.service then some .nmi
    else if s.wdtPending = true ∧ .wdt ∉ s.service then some .wdt
    else if s.nmiPending = true ∨ s.wdtPending = true then none
    else (selectSource s Source.all).map .maskable := by
  simp only [boundary, Bool.and_eq_true, Bool.or_eq_true, Bool.not_eq_true', List.contains_eq_mem, decide_eq_false_iff_not]

theorem boundary_eq_nmi {s : State} : boundary s = some .nmi ↔ s.nmiPending = true ∧ .nmi ∉ s.service := by
  rw [boundary_eq]
  split_ifs with hnmi
  · exact iff_of_true rfl hnmi
  all_goals exact iff_of_false (by simp) hnmi

theorem boundary_eq_wdt {s : State} : boundary s = some .wdt ↔
    s.wdtPending = true ∧ .wdt ∉ s.service ∧ ¬ (s.nmiPending = true ∧ .nmi ∉ s.service) := by
  rw [boundary_eq, ← and_assoc]
  split_ifs with hnmi hwdt
  · exact iff_of_false nofun fun h => h.2 hnmi
  · exact iff_of_true rfl ⟨hwdt, hnmi⟩
  all_goals exact iff_of_false (by simp) fun h => hwdt h.1

theorem boundary_eq_maskable {s : State} {q : Source} : boundary s = some (.maskable q) ↔
    s.nmiPending = false ∧ s.wdtPending = false ∧ selectSource s Source.all = some q := by
  rw [boundary_eq]
  split_ifs with hnmi hwdt hpending
  · exact iff_of_false nofun (by simp [hnmi.1])
  · exact iff_of_false nofun (by simp [hwdt.1])
  · exact iff_of_false nofun fun ⟨hn, hw, _⟩ => by simp [hn, hw] at hpending
  · obtain ⟨hn, hw⟩ := not_or.1 hpending
    simp [hn, hw]

/-- Settles O55: the boundary rule goes through its cases in this order, and `selectSource` takes the first source. -/
theorem boundaryTakesTheHighestPriority : Obligations.BoundaryTakesTheHighestPriority :=
  fun _ => ⟨boundary_eq_nmi, boundary_eq_wdt, fun _ => by rw [boundary_eq_maskable, selectSource_all]; rfl⟩

/-! ## HALT and STOP (R650, R651) -/

theorem wakes_iff {s : State} : wakes s = true ↔
    (s.run = .halted ∧ (s.nmiPending = true ∨ s.wdtPending = true ∨ ∃ q, requested s q = true ∧ masked s q = false)) ∨
      (s.run = .stopped ∧ s.nmiPending = true) := by
  unfold wakes
  cases s.run with
  | running => simp
  | halted => simp [Source.mem_all, or_assoc]
  | stopped => simp

theorem step_of_standby {s : State} (hrun : s.run ≠ .running) (hdue : due s = none) :
    step s = .next (idle (if wakes s then wake s else s)) := by
  simp only [step, hdue]
  cases hr : s.run with
  | running => exact absurd hr hrun
  | halted => rfl
  | stopped => rfl

/-- In HALT a macroservice request alone is served. -/
theorem due_eq_none_of_standby {s : State} (hrun : s.run ≠ .running)
    (h : s.run = .halted → ∀ q, boundary s = some (.maskable q) → serviceMode s q ≠ .macroservice) : due s = none := by
  cases hr : s.run with
  | running => exact absurd hr hrun
  | stopped => exact due_stopped hr
  | halted =>
    refine Option.eq_none_iff_forall_ne_some.2 fun e he => ?_
    obtain ⟨hb, htransfers⟩ := (due_halted hr).1 he
    cases e with
    | nmi | wdt => cases htransfers
    | maskable q => exact h hr q hb (beq_iff_eq.1 htransfers)

/-- Settles O59: nothing is due, so the step is the wake-up or nothing. -/
theorem standbyWaitsForItsWakeUp : Obligations.StandbyWaitsForItsWakeUp := by
  intro s wakesUp hrun hmacro
  have hstep := step_of_standby hrun (due_eq_none_of_standby hrun hmacro)
  have hwakes : wakes s = true ↔ wakesUp := wakes_iff
  refine ⟨fun h => ?_, fun h => ?_⟩
  · rw [hstep, if_pos (hwakes.2 h)]
    rfl
  · rw [hstep, if_neg (hwakes.not.2 h)]
    rfl

end Sys2Proof.Machine
end

section
/-!
One iteration of a string instruction (O52, O53): the transfer or the comparison, then the pointers and the count.
-/

namespace Sys2Proof.Machine

/-! ## The end of an iteration (R492) -/

/-- The state once the pointers of an iteration have moved (`stringTail_eq`). -/
def moveStringPointers (p : Psw) (block up : Bool) (u : State) : State :=
  if block then stepPair p pairHl up (stepPair p pairDe up u) else stepPair p pairDe up u

/-- The addresses of the pointers that an iteration moves. -/
def stringPointerCells (p : Psw) (block : Bool) : List Nat := pairCells p pairDe ++ if block then pairCells p pairHl else []

theorem moveStringPointers_only (p : Psw) (block up : Bool) (u : State) :
    OnlyCells (stringPointerCells p block) u (moveStringPointers p block up u) := by
  have hde := stepPair_only p pairDe up u
  cases block with
  | false => simpa [stringPointerCells, moveStringPointers] using hde
  | true => exact hde.trans (stepPair_only p pairHl up _)

theorem moveStringPointers_wf (p : Psw) (block up : Bool) {u : State} (hu : u.mem.wf = true) :
    (moveStringPointers p block up u).mem.wf = true := by
  have hde := stepPair_wf p pairDe up u hu
  cases block with
  | false => exact hde
  | true => exact stepPair_wf p pairHl up _ hde

theorem readPair_stepPair (p : Psw) (k j : PairNo) (up : Bool) {u : State} (hu : u.mem.wf = true) :
    readPair p j (stepPair p k up u) =
      if k = j then (if up then readPair p k u + 1#16 else readPair p k u - 1#16) else readPair p j u :=
  readPair_writePair p k j _ u hu

theorem readPair_de_moveStringPointers (p : Psw) (block up : Bool) {u : State} (hu : u.mem.wf = true) :
    readPair p pairDe (moveStringPointers p block up u) =
      if up then readPair p pairDe u + 1#16 else readPair p pairDe u - 1#16 := by
  have hde := (readPair_stepPair p pairDe pairDe up hu).trans (if_pos rfl)
  cases block with
  | false => exact hde
  | true => exact ((readPair_stepPair p pairHl pairDe up (stepPair_wf p pairDe up u hu)).trans (if_neg (by decide))).trans hde

theorem readPair_hl_moveStringPointers (p : Psw) (block up : Bool) {u : State} (hu : u.mem.wf = true) :
    readPair p pairHl (moveStringPointers p block up u) =
      if block then (if up then readPair p pairHl u + 1#16 else readPair p pairHl u - 1#16) else readPair p pairHl u := by
  have hhl := (readPair_stepPair p pairDe pairHl up hu).trans (if_neg (by decide))
  cases block with
  | false => exact hhl
  | true =>
    have hstep := (readPair_stepPair p pairHl pairHl up (stepPair_wf p pairDe up u hu)).trans (if_pos rfl)
    rwa [hhl] at hstep

/-- C lies apart from DE and HL. -/
theorem regC_not_mem_pairCells (p : Psw) {k : PairNo} (hk : k = pairDe ∨ k = pairHl) : regAddr p.rbs p.regC ∉ pairCells p k := by
  have hne : ∀ c : RegNo, (c = 2#4 ∨ c = 6#4) → ∀ j : PairNo, (j = pairDe ∨ j = pairHl) → c ≠ j ++ 0#1 ∧ c ≠ j ++ 1#1 := by decide
  have hc : p.regC = 2#4 ∨ p.regC = 6#4 := by
    unfold Psw.regC
    split
    · exact .inr rfl
    · exact .inl rfl
  simpa [pairCells, regAddr_inj] using hne _ hc k hk

theorem readReg_c_moveStringPointers (p : Psw) (block up : Bool) (u : State) :
    readReg p p.regC (moveStringPointers p block up u) = readReg p p.regC u := by
  refine (moveStringPointers_only p block up u).bytes _ ?_
  have hde := regC_not_mem_pairCells p (.inl rfl)
  have hhl := regC_not_mem_pairCells p (.inr rfl)
  cases block <;> simp [stringPointerCells, hde, hhl]

/-- The last iteration goes on behind the instruction, every other one stays at it; the count has its new value either way. -/
theorem stringTail_eq (p : Psw) (block up ended : Bool) (u : State) :
    stringTail p block up ended u =
      (writeReg p p.regC (readReg p p.regC u - 1#8) (moveStringPointers p block up u)).withPc
        (if readReg p p.regC u = 1#8 ∨ ended = true then u.after 2 else u.pc) := by
  have hpc : (moveStringPointers p block up u).pc = u.pc := (moveStringPointers_only p block up u).pc
  have hends : (readReg p p.regC u - 1#8 == 0#8 || ended) = true ↔ readReg p p.regC u = 1#8 ∨ ended = true := by
    rw [Bool.or_eq_true, beq_iff_eq, BitVec.sub_eq_iff_eq_add, BitVec.zero_add]
  have htail : stringTail p block up ended u =
      let t := writeReg p p.regC (readReg p p.regC (moveStringPointers p block up u) - 1#8) (moveStringPointers p block up u)
      if readReg p p.regC (moveStringPointers p block up u) - 1#8 == 0#8 || ended then t.advance 2 else t := rfl
  rw [htail, readReg_c_moveStringPointers]
  by_cases h : readReg p p.regC u = 1#8 ∨ ended = true
  · rw [if_pos (hends.2 h), if_pos h, State.advance, writeReg_pc, hpc, u.pc_add_eq_after]
  · rw [if_neg (hends.not.2 h), if_neg h, ← hpc]
    rfl

theorem stringTail_ends (p : Psw) (block up ended : Bool) {u : State} (hu : u.mem.wf = true) :
    EndOfIteration p block up ended u (stringTail p block up ended u) := by
  have hwf := moveStringPointers_wf p block up hu
  have hcount := writeReg_only p p.regC (readReg p p.regC u - 1#8) (moveStringPointers p block up u)
  have hcells := (moveStringPointers_only p block up u).trans hcount
  have hpair {k : PairNo} (hk : k = pairDe ∨ k = pairHl) := hcount.bytes.readPair_eq (p := p) (k := k) fun c hc hm =>
    regC_not_mem_pairCells p hk (List.mem_singleton.1 hm ▸ hc)
  rw [stringTail_eq]
  refine ⟨?de, ?hl, ?c, rfl, hcells.bytes, hcells.queue, ?rest⟩
  case de => exact (hpair (.inl rfl)).trans (readPair_de_moveStringPointers p block up hu)
  case hl => exact (hpair (.inr rfl)).trans (readPair_hl_moveStringPointers p block up hu)
  case c => exact (readReg_writeReg p _ _ _ _ hwf).trans (if_pos rfl)
  case rest => cases block <;> rfl

/-! ## Moves and exchanges (R493 to R500) -/

theorem StringMove.exec_eq {i : Instr} {exchanges block up : Bool} (h : StringMove i exchanges block up) (s : State) :
    exec i s = finish (
      if exchanges then (if block then exchangeBlock up s else exchangeMany up s)
      else (if block then moveBlock up s else moveMany up s)) := by
  cases h
  all_goals rfl

/-- Settles O52: each form is its transfer, after which `stringTail` ends the iteration. -/
theorem stringMovesOneIteration : Obligations.StringMovesOneIteration := by
  intro i s exchanges block up hs h p de hl acc
  rw [h.exec_eq]
  refine ⟨?moveMany, ?moveBlock, ?exchangeMany, ?exchangeBlock⟩
  case moveMany =>
    rintro rfl rfl u hu
    exact ⟨_, (finish_eq_next _ _).2 (moveMany_ok.2 ⟨u, hu, rfl⟩), stringTail_ends _ _ _ _ (writeByte_wf hu hs), writeByte_only hu⟩
  case moveBlock =>
    rintro rfl rfl v u hv hu
    exact ⟨_, (finish_eq_next _ _).2 (moveBlock_ok.2 ⟨v, u, hv, hu, rfl⟩), stringTail_ends _ _ _ _ (writeByte_wf hu hs),
      writeByte_only hu⟩
  case exchangeMany =>
    rintro rfl rfl x u hx hu
    exact ⟨_, (finish_eq_next _ _).2 (exchangeMany_ok.2 ⟨x, u, hx, hu, rfl⟩),
      stringTail_ends _ _ _ _ (writeReg_wf _ _ _ _ (writeByte_wf hu hs)), writeByte_only hu⟩
  case exchangeBlock =>
    rintro rfl rfl x y u v hx hy hu hv
    exact ⟨_, (finish_eq_next _ _).2 (exchangeBlock_ok.2 ⟨x, y, u, v, hx, hy, hu, hv, rfl⟩),
      stringTail_ends _ _ _ _ (writeByte_wf hv (writeByte_wf hu hs)), (writeByte_only hu).trans (writeByte_only hv)⟩

/-! ## Compares (R501 to R516) -/

theorem StringCompare.exec_eq {i : Instr} {block up : Bool} {ending : Condition} (h : StringCompare i block up ending) (s : State) :
    exec i s = finish (if block then compareBlock ending.holds up s else compareMany ending.holds up s) := by
  cases h
  all_goals rfl

/-- Settles O53: the flags are those of CMP over the integers, after which `stringTail` ends the iteration. -/
theorem stringComparesOneIteration : Obligations.StringComparesOneIteration := by
  intro i s a b hs ha q block up ending h hreg hmem
  refine ⟨stringTail s.psw block up (ending.holds q) (s.withPsw q), ?_, stringTail_ends _ _ _ _ (u := s.withPsw q) hs⟩
  rw [h.exec_eq, finish_eq_next]
  cases block with
  | false =>
    obtain rfl := hreg rfl
    exact compareMany_ok.2 ⟨a, ha, by rw [AluOp.flags_eq_aluPsw]⟩
  | true => exact compareBlock_ok.2 ⟨a, b, ha, hmem rfl, by rw [AluOp.flags_eq_aluPsw]⟩

end Sys2Proof.Machine
end

section
/-!
The events of the environment (O9).
-/

namespace Sys2Proof.Machine

/-! ## A request (R612, R630) -/

theorem raiseRequest_of_seen {q : Source} {s : State} (hrun : s.run ≠ .stopped) (hreq : requested s q = false) :
    raiseRequest q s = { s with sources := s.sources.set q { s.sources.get q with request := true, changed := true } } := by
  simp only [raiseRequest, hrun, hreq, decide_false, Bool.or_false, Bool.false_eq_true, if_false]
  rfl

/-- In STOP, and of a source that has its request, a request changes nothing (R650). -/
theorem raiseRequest_of_unseen {q : Source} {s : State} (h : s.run = .stopped ∨ requested s q = true) : raiseRequest q s = s := by
  rw [raiseRequest, if_pos]
  simpa using h

/-- A request leaves the state, or sets the request of its source. -/
theorem raiseRequest_cases (q : Source) (s : State) :
    ((s.run = .stopped ∨ requested s q = true) ∧ raiseRequest q s = s) ∨ (s.run ≠ .stopped ∧ requested s q = false ∧
      raiseRequest q s = { s with sources := s.sources.set q { s.sources.get q with request := true, changed := true } }) := by
  by_cases h : s.run = .stopped ∨ requested s q = true
  · exact .inl ⟨h, raiseRequest_of_unseen h⟩
  · obtain ⟨hrun, hreq⟩ := not_or.1 h
    rw [Bool.not_eq_true] at hreq
    exact .inr ⟨hrun, hreq, raiseRequest_of_seen hrun hreq⟩

/-- A request reaches the request of its source, and none of its other fields that the acceptance asks for. -/
theorem raiseRequest_fields {q : Source} {s : State} (hrun : s.run ≠ .stopped) :
    requested (raiseRequest q s) q = true ∧ masked (raiseRequest q s) q = masked s q ∧
      serviceMode (raiseRequest q s) q = serviceMode s q := by
  rcases raiseRequest_cases q s with ⟨h, he⟩ | ⟨-, -, he⟩
  · rw [he]
    exact ⟨h.resolve_left hrun, rfl, rfl⟩
  · simp only [he, requested, masked, serviceMode, Sources.get_set, if_true, and_self]

theorem raiseRequest_other {q r : Source} (hr : r ≠ q) (s : State) : (raiseRequest q s).sources.get r = s.sources.get r := by
  rcases raiseRequest_cases q s with ⟨-, he⟩ | ⟨-, -, he⟩
  · rw [he]
  · rw [he, Sources.get_set, if_neg hr]

theorem raiseRequest_inv (q : Source) {s : State} (hs : s.inv = true) : (raiseRequest q s).inv = true := by
  obtain ⟨hmacro, -⟩ := State.inv_sourceLegal hs q
  rcases raiseRequest_cases q s with ⟨-, he⟩ | ⟨-, -, he⟩
  · rwa [he]
  · rw [he]
    exact State.setSource_inv hs ⟨hmacro, fun _ => rfl⟩

/-! ## The watchdog (R655) -/

theorem wdt_of_counting {s : State} (h : s.wdtRunning = true ∧ s.run ≠ .stopped) :
    wdtTick s = { s with wdtCount := s.wdtCount + 1 } ∧ wdtTimeout s = { s with wdtPending := true } := by
  have hcounts : (s.wdtRunning && s.run != .stopped) = true := by simpa using h
  exact ⟨if_pos hcounts, if_pos hcounts⟩

theorem wdt_of_held {s : State} (h : s.wdtRunning = false ∨ s.run = .stopped) : wdtTick s = s ∧ wdtTimeout s = s := by
  have hheld : ¬ (s.wdtRunning && s.run != .stopped) = true := by
    rw [Bool.and_eq_true, bne_iff_ne, not_and_or, Bool.not_eq_true, not_ne_iff]
    exact h
  exact ⟨if_neg hheld, if_neg hheld⟩

theorem wdt_inv {s : State} (hs : s.inv = true) : (wdtTick s).inv = true ∧ (wdtTimeout s).inv = true := by
  by_cases h : s.wdtRunning = true ∧ s.run ≠ .stopped
  · obtain ⟨htick, htimeout⟩ := wdt_of_counting h
    rw [htick, htimeout]
    exact ⟨hs, hs⟩
  · obtain ⟨htick, htimeout⟩ := wdt_of_held (s := s) (by rwa [not_and_or, Bool.not_eq_true, not_ne_iff] at h)
    rw [htick, htimeout]
    exact ⟨hs, hs⟩

/-! ## RESET (R700 to R704) -/

/-- STBC after RESET asks for RUN, whatever bit 3 was. -/
theorem standbyOf_reset (v : Byte) : standbyOf (State.reset.byte stbcAddr &&& 0xF7#8 ||| v &&& 0x08#8) = .running := by
  have hreset : State.reset.byte stbcAddr = 0x20#8 := by decide
  rw [hreset]
  simp [standbyOf]

/-- The state after RESET keeps the invariant: below the SFR area any byte is legal, and there it is the reset state but for STBC. -/
theorem State.afterReset_inv {s : State} (hs : s.mem.wf = true) : s.afterReset.inv = true := by
  have hreset : State.reset.inv = true := resetMeetsTheInvariant
  have hwf : s.afterReset.mem.wf = true := Memory.set_wf _ _ _ (Memory.filter_wfFrom s.mem 0 _ hs) (by decide)
  refine State.inv_iff.2 ⟨hwf, fun a => ?_, (State.inv_serviceAccepted hreset :),
    fun q => (State.inv_sourceLegal hreset q :)⟩
  by_cases ha : a = stbcAddr
  · subst ha
    exact ⟨fun _ => by rw [s.afterReset_stbc hs]; exact standbyOf_reset _, nofun, nofun⟩
  · rw [s.afterReset_byte ha]
    split
    · exact cellLegal_of_outside (by omega)
    · exact State.inv_cellLegal hreset a

theorem resetPin_inv {s t : State} (hs : s.mem.wf = true) (h : resetPin s = .ok t) : t.inv = true := by
  obtain ⟨target, -, rfl⟩ := resetPin_ok.1 h
  exact State.afterReset_inv hs

/-- Settles O9, event by event. -/
theorem environmentKeepsTheInvariant : Obligations.EnvironmentKeepsTheInvariant := by
  refine ⟨fun s q => ?request, fun s => ⟨rfl, wdt_of_counting, wdt_of_held⟩, fun s hs => ?inv⟩
  case request => exact ⟨raiseRequest_fields, raiseRequest_of_seen, raiseRequest_of_unseen, fun r hr => raiseRequest_other hr s⟩
  case inv =>
    obtain ⟨hwf, -⟩ := State.inv_iff.1 hs
    obtain ⟨htick, htimeout⟩ := wdt_inv hs
    exact ⟨fun q => raiseRequest_inv q hs, hs, htick, htimeout, fun t => resetPin_inv hwf⟩

end Sys2Proof.Machine
end
